-- ==== Sys2Proof/Word.lean ====
section
/-! DEFINITION. The two word types of the block and the store into a 16-bit field (spec/00_scope.md R10). -/

namespace Sys2Proof

/-- One byte of the host's stream, of the argument buffer or of the framebuffer. -/
abbrev Byte := BitVec 8

/-- A window or cursor field, a 16-bit command argument or a colour sample (`WIN_BITS = 16`, R8; R20; R82). -/
abbrev Word := BitVec 16

/-- `u16(v)` of R10: `v mod 65536`, the value stored into a 16-bit field. -/
def u16 (v : Int) : Word := BitVec.ofInt 16 v

end Sys2Proof
end

