-- ==== Sys2Proof/Config.lean ====
section
/-! DEFINITION. The parameters of spec/00_scope.md R8: what one device instance fixes at attach and no event changes
(R31). A `Config` is plain data and the state carries it unchanged, so that one model covers every value of every
parameter (notes/assumptions/1.md); and the one value the spec leaves open, an opaque constant. -/

namespace Sys2Proof

/-- The 26 named commands of R76, in the order of spec/opcode_table.json. `UNKNOWN` is no command of the map: it is
what every byte outside the map's image decodes to (R77). -/
inductive Command where
  | nop | swreset | slpin | slpout | invoff | invon | dispoff | dispon | caset | paset | ramwr | madctl | colmod
  | frmctr1 | frmctr2 | frmctr3 | invctr | disset5 | pwctr1 | pwctr2 | pwctr3 | pwctr4 | pwctr5 | vmctr1 | gmctrp1 | gmctrn1
deriving DecidableEq, Repr

/-- Every command of R76, each once. -/
def Command.all : List Command :=
  [.nop, .swreset, .slpin, .slpout, .invoff, .invon, .dispoff, .dispon, .caset, .paset, .ramwr, .madctl, .colmod,
   .frmctr1, .frmctr2, .frmctr3, .invctr, .disset5, .pwctr1, .pwctr2, .pwctr3, .pwctr4, .pwctr5, .vmctr1, .gmctrp1, .gmctrn1]

/-- `OPCODE_MAP` (R76): the byte value of each named command. -/
structure OpcodeMap where
  nop : Byte
  swreset : Byte
  slpin : Byte
  slpout : Byte
  invoff : Byte
  invon : Byte
  dispoff : Byte
  dispon : Byte
  caset : Byte
  paset : Byte
  ramwr : Byte
  madctl : Byte
  colmod : Byte
  frmctr1 : Byte
  frmctr2 : Byte
  frmctr3 : Byte
  invctr : Byte
  disset5 : Byte
  pwctr1 : Byte
  pwctr2 : Byte
  pwctr3 : Byte
  pwctr4 : Byte
  pwctr5 : Byte
  vmctr1 : Byte
  gmctrp1 : Byte
  gmctrn1 : Byte
deriving DecidableEq, Repr

/-- The byte the map gives a command. -/
def OpcodeMap.byte (m : OpcodeMap) : Command → Byte
  | .nop => m.nop
  | .swreset => m.swreset
  | .slpin => m.slpin
  | .slpout => m.slpout
  | .invoff => m.invoff
  | .invon => m.invon
  | .dispoff => m.dispoff
  | .dispon => m.dispon
  | .caset => m.caset
  | .paset => m.paset
  | .ramwr => m.ramwr
  | .madctl => m.madctl
  | .colmod => m.colmod
  | .frmctr1 => m.frmctr1
  | .frmctr2 => m.frmctr2
  | .frmctr3 => m.frmctr3
  | .invctr => m.invctr
  | .disset5 => m.disset5
  | .pwctr1 => m.pwctr1
  | .pwctr2 => m.pwctr2
  | .pwctr3 => m.pwctr3
  | .pwctr4 => m.pwctr4
  | .pwctr5 => m.pwctr5
  | .vmctr1 => m.vmctr1
  | .gmctrp1 => m.gmctrp1
  | .gmctrn1 => m.gmctrn1

/-- `OPCODE_MAP` is "an injective map from the 26 mnemonics to byte values" (R76). -/
abbrev OpcodeMap.Injective (m : OpcodeMap) : Prop := (Command.all.map m.byte).Nodup

/-- `MADCTL_BITS` (R8, R78): which bit of the `MADCTL` argument is which orientation flag. -/
structure MadctlBits where
  swap    : Fin 8
  hmirror : Fin 8
  vmirror : Fin 8
deriving DecidableEq, Repr

/-- `SAMPLE_ORDER` (R8, R83, R85): the byte order of a 16-bit colour sample in a DATA buffer. -/
inductive SampleOrder where
  /-- The first byte of the pair is bits 15:8. -/
  | highFirst
  /-- The opposite order: the first byte of the pair is bits 7:0. -/
  | lowFirst
deriving DecidableEq, Repr

/-- `LATCH_CLEAR` (R8, R102): when a COMMAND buffer clears `ram_write`. -/
inductive LatchClear where
  /-- Once, before the buffer's first byte. -/
  | perBuffer
  /-- Before each opcode of the buffer. -/
  | perOpcode
deriving DecidableEq, Repr

/-- `PIXEL_LAYOUT` (R8, R53): the byte offset of each channel inside a pixel. -/
structure PixelLayout where
  r : Nat
  g : Nat
  b : Nat
  a : Nat
deriving DecidableEq, Repr

/-- `FB_OOB_POLICY` (R8, R55): what the framebuffer sink does with a write not wholly inside its bytes. `IGNORE` is the
one value the spec names (notes/assumptions/5.md). -/
inductive FbOobPolicy where
  /-- "the sink stores nothing and the write has no effect" (R55). -/
  | ignore
deriving DecidableEq, Repr

/-- The parameters of one device instance (R8). `CMD_BUF_CAP` and `PAGE_OFFSET`, which R8 calls fixed, and `WIN_BITS`, which its
constraints set to 16, are no fields: they are the size of `command_buf`, `pageOffset` and the type `Word`. -/
structure Config where
  /-- `W`, the panel width in pixels. -/
  width : Nat
  /-- `H`, the panel height in pixels. -/
  height : Nat
  opcodeMap : OpcodeMap
  madctlBits : MadctlBits
  sampleOrder : SampleOrder
  latchClear : LatchClear
  /-- `PIXEL_SIZE`, the bytes of a framebuffer pixel. -/
  pixelSize : Nat
  pixelLayout : PixelLayout
  fbOobPolicy : FbOobPolicy
  /-- `DIAG_UNHANDLED`: whether a table-listed command the dispatcher does not name reports a diagnostic. -/
  diagUnhandled : Bool
deriving DecidableEq, Repr

/-- FREE VALUE (notes/assumptions/4.md): byte `i` of the pixel of sample `s` written at `off`, where `i` is no channel's place. The
spec states none: with the default `PIXEL_SIZE` of 4 the four channels fill the pixel, with a greater one it has more bytes
than channels. -/
opaque Config.paddingByte (c : Config) (off : Int) (s : Word) (i : Nat) : Byte

end Sys2Proof
end

