-- ==== Sys2Proof/Syntax.lean ====
section
/-! DEFINITION. The instructions of the block: one constructor per row of spec/opcode_table.json, in the table's order.
A command carries the argument bytes of its complete frame (spec/30_encoding.md R71), `UNKNOWN` the opcode byte it was read
from, `ARG` one argument byte and `PIX` one 16-bit colour sample. -/

namespace Sys2Proof

/-- What the block executes (R1: "Its instructions are display commands ... and 16-bit colour samples"). -/
inductive Instr where
  /-- no-op (R133). -/
  | nop
  /-- software-reset (R140). -/
  | swreset
  /-- sleep-in (R134). -/
  | slpin
  /-- sleep-out (R135). -/
  | slpout
  /-- inversion-off (R139). -/
  | invoff
  /-- inversion-on (R138). -/
  | invon
  /-- display-off (R137). -/
  | dispoff
  /-- display-on (R136). -/
  | dispon
  /-- column-address-set: the two big-endian 16-bit values of R80, start and end, both inclusive (R146). -/
  | caset (first last : Word)
  /-- page-address-set: as `caset` (R147). -/
  | paset (first last : Word)
  /-- memory-write (R144). -/
  | ramwr
  /-- orientation-control: its whole argument byte, whose bits 4:0 are ignored under the default `MADCTL_BITS` (R78, R145). -/
  | madctl (a : Byte)
  /-- pixel-format-set, one uninterpreted byte (R81, R142). -/
  | colmod (a0 : Byte)
  /-- frame-rate-control-1, three uninterpreted bytes (R154). -/
  | frmctr1 (a0 a1 a2 : Byte)
  /-- frame-rate-control-2, three uninterpreted bytes (R155). -/
  | frmctr2 (a0 a1 a2 : Byte)
  /-- frame-rate-control-3, six uninterpreted bytes (R156). -/
  | frmctr3 (a0 a1 a2 a3 a4 a5 : Byte)
  /-- inversion-control, one uninterpreted byte (R149). -/
  | invctr (a0 : Byte)
  /-- display-settings-5, two uninterpreted bytes (R153). -/
  | disset5 (a0 a1 : Byte)
  /-- power-control-1, three uninterpreted bytes (R141). -/
  | pwctr1 (a0 a1 a2 : Byte)
  /-- power-control-2, one uninterpreted byte (R148). -/
  | pwctr2 (a0 : Byte)
  /-- power-control-3, two uninterpreted bytes (R150). -/
  | pwctr3 (a0 a1 : Byte)
  /-- power-control-4, two uninterpreted bytes (R151). -/
  | pwctr4 (a0 a1 : Byte)
  /-- power-control-5, two uninterpreted bytes (R152). -/
  | pwctr5 (a0 a1 : Byte)
  /-- VCOM-control, one uninterpreted byte (R143). -/
  | vmctr1 (a0 : Byte)
  /-- positive gamma correction, sixteen uninterpreted bytes (R157). -/
  | gmctrp1 (a : Vector Byte 16)
  /-- negative gamma correction, sixteen uninterpreted bytes (R158). -/
  | gmctrn1 (a : Vector Byte 16)
  /-- an opcode byte outside the `OPCODE_MAP` image (R77, R159). -/
  | unknown (op : Byte)
  /-- one byte of a DATA buffer while `ram_write` is false (R105). -/
  | arg (b : Byte)
  /-- one 16-bit sample of a DATA buffer while `ram_write` is true (R170). -/
  | pix (s : Word)
deriving DecidableEq, Repr

end Sys2Proof
end

