-- ==== Sys2Proof/WellFormed.lean ====
section
/-! DEFINITION. What a well-formed instruction and a well-formed set of parameters are. -/

namespace Sys2Proof

/-- Whether a byte is the value of a named command under the map (the `OPCODE_MAP` image of R76). -/
def OpcodeMap.inImage (m : OpcodeMap) (b : Byte) : Bool := Command.all.any fun c => m.byte c == b

/-- An instruction is well formed under a map when its fields can stand in an encoding of it. The one check: `UNKNOWN`
stands only for a byte outside the map's image (R77). Every argument value of every command, every argument byte and every
sample is accepted (R86). -/
def Instr.wf (m : OpcodeMap) : Instr → Bool
  | .unknown op => !m.inImage op
  | .nop => true
  | .swreset => true
  | .slpin => true
  | .slpout => true
  | .invoff => true
  | .invon => true
  | .dispoff => true
  | .dispon => true
  | .caset _ _ => true
  | .paset _ _ => true
  | .ramwr => true
  | .madctl _ => true
  | .colmod _ => true
  | .frmctr1 _ _ _ => true
  | .frmctr2 _ _ _ => true
  | .frmctr3 _ _ _ _ _ _ => true
  | .invctr _ => true
  | .disset5 _ _ => true
  | .pwctr1 _ _ _ => true
  | .pwctr2 _ => true
  | .pwctr3 _ _ => true
  | .pwctr4 _ _ => true
  | .pwctr5 _ _ => true
  | .vmctr1 _ => true
  | .gmctrp1 _ => true
  | .gmctrn1 _ => true
  | .arg _ => true
  | .pix _ => true

/-- The three flags take three different bits among "the top 3 bits" of the argument (R8, R78). -/
abbrev MadctlBits.Wf (b : MadctlBits) : Prop :=
  [b.swap, b.hmirror, b.vmirror].Nodup ∧ 5 ≤ b.swap.val ∧ 5 ≤ b.hmirror.val ∧ 5 ≤ b.vmirror.val

/-- The four channels take four different bytes of a pixel of this size (R8, R53), which so has four bytes at least. -/
abbrev PixelLayout.Wf (l : PixelLayout) (size : Nat) : Prop :=
  [l.r, l.g, l.b, l.a].Nodup ∧ l.r < size ∧ l.g < size ∧ l.b < size ∧ l.a < size

/-- The constraints of R8 and R76 on the parameters: `1 <= W <= 65535`, `1 <= H <= 65535`, an injective `OPCODE_MAP`, and
positions that do not collide. -/
abbrev Config.Wf (c : Config) : Prop :=
  1 ≤ c.width ∧ c.width ≤ 65535 ∧ 1 ≤ c.height ∧ c.height ≤ 65535 ∧
  c.opcodeMap.Injective ∧ c.madctlBits.Wf ∧ c.pixelLayout.Wf c.pixelSize

end Sys2Proof
end

