-- ==== Sys2Proof/Decode.lean ====
section
/-! DEFINITION. The wire encoding (spec/30_encoding.md): the Command Table, the default `OPCODE_MAP`, the decoder (total on
any bytes, rejecting by name) and, after it, the encoder. What a byte is depends on the mode line and the write latch (R70),
so the decoder takes the kind of frame the bytes stand in. -/

namespace Sys2Proof

/-! ### Bytes and 16-bit values -/

/-- Bits 15:8 of a 16-bit value. -/
def hiByte (w : Word) : Byte := w.extractLsb' 8 8

/-- Bits 7:0 of a 16-bit value. -/
def loByte (w : Word) : Byte := w.extractLsb' 0 8

/-- A big-endian 16-bit argument, the first byte high: `zext_16(b0) * 256 + zext_16(b1)` (R56.1, R80). -/
def be16 (b0 b1 : Byte) : Word := b0.setWidth 16 * 256#16 + b1.setWidth 16

/-- The colour sample of two consecutive DATA bytes under `SAMPLE_ORDER` (R83, R85). -/
def sampleOf : SampleOrder → Byte → Byte → Word
  | .highFirst, b0, b1 => be16 b0 b1
  | .lowFirst, b0, b1 => be16 b1 b0

/-- The two DATA bytes of a colour sample under `SAMPLE_ORDER`, in delivery order (R83, R85). -/
def sampleBytes : SampleOrder → Word → List Byte
  | .highFirst, s => [hiByte s, loByte s]
  | .lowFirst, s => [loByte s, hiByte s]

/-! ### The Command Table and the opcode map -/

/-- The Command Table: the argument count of each named command (R75). -/
def argCount : Command → Nat
  | .nop => 0
  | .swreset => 0
  | .slpin => 0
  | .slpout => 0
  | .invoff => 0
  | .invon => 0
  | .dispoff => 0
  | .dispon => 0
  | .caset => 4
  | .paset => 4
  | .ramwr => 0
  | .madctl => 1
  | .colmod => 1
  | .frmctr1 => 3
  | .frmctr2 => 3
  | .frmctr3 => 6
  | .invctr => 1
  | .disset5 => 2
  | .pwctr1 => 3
  | .pwctr2 => 1
  | .pwctr3 => 2
  | .pwctr4 => 2
  | .pwctr5 => 2
  | .vmctr1 => 1
  | .gmctrp1 => 16
  | .gmctrn1 => 16

/-- The default `OPCODE_MAP` (R76, D1; notes/assumptions/2.md). -/
def defaultOpcodeMap : OpcodeMap where
  nop := 0x00#8
  swreset := 0x01#8
  slpin := 0x10#8
  slpout := 0x11#8
  invoff := 0x20#8
  invon := 0x21#8
  dispoff := 0x28#8
  dispon := 0x29#8
  caset := 0x2A#8
  paset := 0x2B#8
  ramwr := 0x2C#8
  madctl := 0x36#8
  colmod := 0x3A#8
  frmctr1 := 0xB1#8
  frmctr2 := 0xB2#8
  frmctr3 := 0xB3#8
  invctr := 0xB4#8
  disset5 := 0xB6#8
  pwctr1 := 0xC0#8
  pwctr2 := 0xC1#8
  pwctr3 := 0xC2#8
  pwctr4 := 0xC3#8
  pwctr5 := 0xC4#8
  vmctr1 := 0xC5#8
  gmctrp1 := 0xE0#8
  gmctrn1 := 0xE1#8

/-- The default of every parameter of R8 (D1, D2, D3, D5, D9, D11, D15, D16; notes/assumptions/2.md to 5.md): the
parameters the test vectors of spec/95_test_vectors.md run under. -/
def defaultConfig : Config where
  width := 240
  height := 240
  opcodeMap := defaultOpcodeMap
  madctlBits := { swap := 5, hmirror := 6, vmirror := 7 }
  sampleOrder := .highFirst
  latchClear := .perBuffer
  pixelSize := 4
  pixelLayout := { r := 0, g := 1, b := 2, a := 3 }
  fbOobPolicy := .ignore
  diagUnhandled := true

/-- The command an opcode byte names, `none` for `UNKNOWN` (R77). -/
def commandOf (m : OpcodeMap) (b : Byte) : Option Command := Command.all.find? fun c => m.byte c == b

/-- `ArgCount` of an opcode byte: 0 for every byte the map does not name (R75). -/
def opArgCount (m : OpcodeMap) (b : Byte) : Nat :=
  match commandOf m b with
  | some c => argCount c
  | none => 0

/-! ### The decoder -/

/-- A named command with its arguments `a[i]`, of which it takes its own `argCount` from index 0 (R130, R78, R80, R81). -/
def commandInstr (c : Command) (a : Vector Byte 16) : Instr :=
  match c with
  | .nop => .nop
  | .swreset => .swreset
  | .slpin => .slpin
  | .slpout => .slpout
  | .invoff => .invoff
  | .invon => .invon
  | .dispoff => .dispoff
  | .dispon => .dispon
  | .caset => .caset (be16 a[0] a[1]) (be16 a[2] a[3])
  | .paset => .paset (be16 a[0] a[1]) (be16 a[2] a[3])
  | .ramwr => .ramwr
  | .madctl => .madctl a[0]
  | .colmod => .colmod a[0]
  | .frmctr1 => .frmctr1 a[0] a[1] a[2]
  | .frmctr2 => .frmctr2 a[0] a[1] a[2]
  | .frmctr3 => .frmctr3 a[0] a[1] a[2] a[3] a[4] a[5]
  | .invctr => .invctr a[0]
  | .disset5 => .disset5 a[0] a[1]
  | .pwctr1 => .pwctr1 a[0] a[1] a[2]
  | .pwctr2 => .pwctr2 a[0]
  | .pwctr3 => .pwctr3 a[0] a[1]
  | .pwctr4 => .pwctr4 a[0] a[1]
  | .pwctr5 => .pwctr5 a[0] a[1]
  | .vmctr1 => .vmctr1 a[0]
  | .gmctrp1 => .gmctrp1 a
  | .gmctrn1 => .gmctrn1 a

/-- The instruction an opcode byte and its arguments stand for (R77, R130). -/
def opcodeInstr (m : OpcodeMap) (op : Byte) (a : Vector Byte 16) : Instr :=
  match commandOf m op with
  | some c => commandInstr c a
  | none => .unknown op

/-- What a run of bytes is, which the mode line and the write latch decide and no byte does (R70). -/
inductive FrameKind where
  /-- an opcode byte of a COMMAND buffer, then its argument bytes (R71). -/
  | command
  /-- bytes of a DATA buffer while `ram_write` is false (R105). -/
  | argument
  /-- bytes of a DATA buffer while `ram_write` is true (R72). -/
  | pixel
deriving DecidableEq, Repr

/-- Why no instruction stands at the head of a run of bytes. No byte value is ever rejected (R70, R77, R86): only a run
that ends too early is. -/
inductive DecodeError where
  /-- the run is empty. -/
  | noBytes
  /-- the opcode needs more argument bytes than the run still has: the command is in flight (R106, R108). -/
  | argumentsMissing (op : Byte) (needed got : Nat)
  /-- the run is the odd last byte of a pixel buffer, which belongs to no sample (R83, R171). -/
  | oddByte (b : Byte)
deriving DecidableEq, Repr

/-- The argument buffer that the bytes fill from index 0, zero above them. -/
def argBuffer (l : List Byte) : Vector Byte 16 := Vector.ofFn fun i => l.getD i.val 0

/-- Read one instruction of the given kind from the head of a run of bytes, with the bytes left over. -/
def decode (cfg : Config) : FrameKind → List Byte → Except DecodeError (Instr × List Byte)
  | _, [] => .error .noBytes
  | .command, op :: rest =>
    let n := opArgCount cfg.opcodeMap op
    if rest.length < n then .error (.argumentsMissing op n rest.length)
    else .ok (opcodeInstr cfg.opcodeMap op (argBuffer (rest.take n)), rest.drop n)
  | .argument, b :: rest => .ok (.arg b, rest)
  | .pixel, [b] => .error (.oddByte b)
  | .pixel, b0 :: b1 :: rest => .ok (.pix (sampleOf cfg.sampleOrder b0 b1), rest)

/-- The samples of a pixel-mode DATA buffer in delivery order, an odd last byte dropped (R83, R171). -/
def samplesOf (o : SampleOrder) : List Byte → List Word
  | b0 :: b1 :: rest => sampleOf o b0 b1 :: samplesOf o rest
  | [_] => []
  | [] => []

/-! ### The encoder -/

/-- The kind of frame an instruction stands in (R70). -/
def frameKind : Instr → FrameKind
  | .arg _ => .argument
  | .pix _ => .pixel
  | .nop => .command
  | .swreset => .command
  | .slpin => .command
  | .slpout => .command
  | .invoff => .command
  | .invon => .command
  | .dispoff => .command
  | .dispon => .command
  | .caset _ _ => .command
  | .paset _ _ => .command
  | .ramwr => .command
  | .madctl _ => .command
  | .colmod _ => .command
  | .frmctr1 _ _ _ => .command
  | .frmctr2 _ _ _ => .command
  | .frmctr3 _ _ _ _ _ _ => .command
  | .invctr _ => .command
  | .disset5 _ _ => .command
  | .pwctr1 _ _ _ => .command
  | .pwctr2 _ => .command
  | .pwctr3 _ _ => .command
  | .pwctr4 _ _ => .command
  | .pwctr5 _ _ => .command
  | .vmctr1 _ => .command
  | .gmctrp1 _ => .command
  | .gmctrn1 _ => .command
  | .unknown _ => .command

/-- The bytes of an instruction: a command's opcode under the map and its arguments in delivery order (R71, R76, R80), an
unrecognised opcode by itself (R86), an argument byte (R105), the two bytes of a sample (R83). -/
def encode (cfg : Config) : Instr → List Byte
  | .nop => [cfg.opcodeMap.nop]
  | .swreset => [cfg.opcodeMap.swreset]
  | .slpin => [cfg.opcodeMap.slpin]
  | .slpout => [cfg.opcodeMap.slpout]
  | .invoff => [cfg.opcodeMap.invoff]
  | .invon => [cfg.opcodeMap.invon]
  | .dispoff => [cfg.opcodeMap.dispoff]
  | .dispon => [cfg.opcodeMap.dispon]
  | .caset first last => [cfg.opcodeMap.caset, hiByte first, loByte first, hiByte last, loByte last]
  | .paset first last => [cfg.opcodeMap.paset, hiByte first, loByte first, hiByte last, loByte last]
  | .ramwr => [cfg.opcodeMap.ramwr]
  | .madctl a => [cfg.opcodeMap.madctl, a]
  | .colmod a0 => [cfg.opcodeMap.colmod, a0]
  | .frmctr1 a0 a1 a2 => [cfg.opcodeMap.frmctr1, a0, a1, a2]
  | .frmctr2 a0 a1 a2 => [cfg.opcodeMap.frmctr2, a0, a1, a2]
  | .frmctr3 a0 a1 a2 a3 a4 a5 => [cfg.opcodeMap.frmctr3, a0, a1, a2, a3, a4, a5]
  | .invctr a0 => [cfg.opcodeMap.invctr, a0]
  | .disset5 a0 a1 => [cfg.opcodeMap.disset5, a0, a1]
  | .pwctr1 a0 a1 a2 => [cfg.opcodeMap.pwctr1, a0, a1, a2]
  | .pwctr2 a0 => [cfg.opcodeMap.pwctr2, a0]
  | .pwctr3 a0 a1 => [cfg.opcodeMap.pwctr3, a0, a1]
  | .pwctr4 a0 a1 => [cfg.opcodeMap.pwctr4, a0, a1]
  | .pwctr5 a0 a1 => [cfg.opcodeMap.pwctr5, a0, a1]
  | .vmctr1 a0 => [cfg.opcodeMap.vmctr1, a0]
  | .gmctrp1 a => cfg.opcodeMap.gmctrp1 :: a.toList
  | .gmctrn1 a => cfg.opcodeMap.gmctrn1 :: a.toList
  | .unknown op => [op]
  | .arg b => [b]
  | .pix s => sampleBytes cfg.sampleOrder s

/-! ### The opcode table's words -/

/-- The bytes of a word of spec/opcode_table.json in delivery order, with the kind of frame they stand in: an 8-bit word is
an opcode byte in COMMAND mode, and every argument byte its frame has above the table's 8 bits is zero (sixteen of them,
the longest frame, R75); a 16-bit word is a colour sample with its bits numbered as in R82 (notes/assumptions/10.md). -/
def tableWordBytes (o : SampleOrder) (nbits w : Nat) : Option (FrameKind × List Byte) :=
  if nbits = 8 then some (.command, BitVec.ofNat 8 w :: List.replicate 16 0)
  else if nbits = 16 then some (.pixel, sampleBytes o (BitVec.ofNat 16 w))
  else none

/-- What the decoder reads, under the default parameters, from a word of spec/opcode_table.json. -/
def decodeTableWord (nbits w : Nat) : Option Instr :=
  match tableWordBytes defaultConfig.sampleOrder nbits w with
  | none => none
  | some (k, bytes) =>
    match decode defaultConfig k bytes with
    | .ok (i, _) => some i
    | .error _ => none

end Sys2Proof
end

