-- ==== Sys2Proof/Machine/Params.lean ====
section
/-! DEFINITION. The constants the rules fix and the constants derived from the parameters (spec/00_scope.md R8, R9;
spec/20_memory.md R50, R53). -/

namespace Sys2Proof.Machine

/-- `PAGE_OFFSET`: what the page window loses under vertical mirror (R8, R132). -/
def pageOffset : Int := 32

/-- `radius = floor(min(W, H) / 2)` (R9, D17). -/
def radius (c : Config) : Nat := min c.width c.height / 2

/-- The bytes of the framebuffer, at offsets `0 .. W*H*PIXEL_SIZE - 1` (R50). -/
def fbSize (c : Config) : Nat := c.width * c.height * c.pixelSize

end Sys2Proof.Machine
end

