-- ==== Sys2Proof/Machine/State.lean ====
section
/-! DEFINITION. The state of the block as plain data: the Chip State of spec/10_state.md R20 field by field, its two outputs
(R36), the parameters fixed at attach (R31) and the events the host has still to deliver (R6). -/

namespace Sys2Proof.Machine

/-- The level of the command/data line as the core last heard it (R20, R22). -/
inductive Mode where
  /-- bytes are opcodes. -/
  | command
  /-- bytes are arguments or pixels. -/
  | data
deriving DecidableEq, Repr

/-- What the host delivers, one at a time, each handled to completion before the next (R6, R11). Two events at once and a
buffer whose bytes span two modes, which the host never sends (R113), cannot be written down here. -/
inductive Event where
  /-- a byte buffer, processed under the current mode (R100 to R105). -/
  | bytes (buf : List Byte)
  /-- a transition of the mode line (R109). -/
  | modeLine (m : Mode)
  /-- select deasserted to asserted (R110). -/
  | selectAssert
  /-- select asserted to deasserted (R111). -/
  | selectDeassert
  /-- the reset line going active (R221). -/
  | resetAssert
  /-- the reset line going inactive (R222). -/
  | resetDeassert
deriving DecidableEq, Repr

/-- What the core sends out (R36, R204): one `MemWrite` to the framebuffer sink, its offset on ℤ and its bytes (R51, R52), or
one diagnostic naming an opcode byte (R202). -/
inductive Output where
  | memWrite (off : Int) (bytes : List Byte)
  | diag (op : Byte)
deriving DecidableEq, Repr

/-- Framebuffer bytes by offset, strictly rising. An offset that is not listed holds what the framebuffer held at attach,
which is unknown (R51, R61, D27): it reads as no value (notes/assumptions/6.md). -/
abbrev Memory := List Host.Cell

/-- Why a step stops with a fault. There is no reason: "a model has no fault outcome for this block" (R200). Nothing raises
a fault, which is safe and is the spec's own statement. -/
inductive Fault where
deriving DecidableEq, Repr

/-- Why a step has no meaning. -/
inductive Refusal where
  /-- An arm of `exec` that has no meaning yet. No arm is one: nothing raises this. It would be safe, since the run ends. -/
  | notModelled (mnemonic : String)
deriving DecidableEq, Repr

/-- The machine. The fields from `mode` to `vmirror` are the Chip State of R20, "exactly the fields below and nothing
else". -/
structure State where
  /-- The parameters of this device instance, fixed at attach; no event writes them (R8, R31). -/
  cfg : Config
  /-- `mode`, written only by `ModeLine` (R22). -/
  mode : Mode
  /-- `command_code`, 8 bits: the last opcode byte read (R23). -/
  commandCode : Byte
  /-- `command_size`, a natural 0..16: the argument count of the command in flight (R24). -/
  commandSize : Nat
  /-- `command_index`, a natural 0..16: the argument bytes accumulated so far (R25). -/
  commandIndex : Nat
  /-- `command_buf`: 16 bytes of accumulated arguments, never cleared (R26). -/
  commandBuf : Vector Byte 16
  /-- `ram_write`: DATA bytes are pixels (R27). -/
  ramWrite : Bool
  /-- `column_start`, inclusive (R28). -/
  columnStart : Word
  /-- `column_end`, inclusive (R28). -/
  columnEnd : Word
  /-- `page_start`, inclusive (R28). -/
  pageStart : Word
  /-- `page_end`, inclusive (R28). -/
  pageEnd : Word
  /-- `active_column`, the column cursor (R29). -/
  activeColumn : Word
  /-- `active_page`, the page cursor (R29). -/
  activePage : Word
  /-- `swap`: row/column swap (R30). -/
  swap : Bool
  /-- `hmirror`: horizontal mirror (R30). -/
  hmirror : Bool
  /-- `vmirror`: vertical mirror (R30). -/
  vmirror : Bool
  /-- The bytes the framebuffer sink has stored (R50, R51, R55). The core never reads them (R61). -/
  fb : Memory
  /-- The output history in issue order, oldest first (R36, R51, R202). The core never reads it. -/
  outputs : List Output
  /-- The model's own field: the events the host has still to deliver, the next one first (notes/assumptions/7.md). -/
  inbox : List Event
deriving DecidableEq, Repr

/-- Device attach (R220): the state a device instance with these parameters begins in, with the framebuffer unwritten
(R61) and no output sent. -/
def State.attach (cfg : Config) : State where
  cfg := cfg
  mode := .command
  commandCode := 0x00#8
  commandSize := 0
  commandIndex := 0
  commandBuf := Vector.replicate 16 0x00#8
  ramWrite := false
  columnStart := 0#16
  columnEnd := u16 (cfg.width - 1)
  pageStart := 0#16
  pageEnd := u16 (cfg.height - 1)
  activeColumn := 0#16
  activePage := 0#16
  swap := false
  hmirror := false
  vmirror := false
  fb := []
  outputs := []
  inbox := []

/-- The machine right after attach under the default parameters, the state every vector of spec/95_test_vectors.md starts
from unless it says otherwise (R220; notes/assumptions/8.md). -/
def State.reset : State := State.attach defaultConfig

end Sys2Proof.Machine
end

