-- ==== Sys2Proof/Machine/Ops.lean ====
section
/-! DEFINITION. The named operations the meanings share: memory, the two outputs, the command fields, the window and the
cursor, the reset line's effect, and running a list of inputs one after another. The block has no exception to take and none
to return from (spec/60_exceptions.md R200): there is no such operation here. -/

namespace Sys2Proof.Machine

/-- What a step, a meaning and the handling of an event answer. -/
abbrev Result := Host.Outcome State Fault Refusal

/-! ### Sequencing -/

/-- Go on from a next state; a fault or a refusal stands. -/
def andThen (r : Result) (f : State → Result) : Result :=
  match r with
  | .next s => f s
  | .fault e => .fault e
  | .refused e => .refused e

/-- Handle each input in order, each from the state the one before it left (R11: "every state read inside it sees the
writes made earlier in the same event"). -/
def runEach {α : Type} (f : α → State → Result) : List α → State → Result
  | [], s => .next s
  | a :: as, s => andThen (f a s) (runEach f as)

/-! ### The framebuffer sink -/

/-- The byte at an offset: `none` where nothing has been stored since attach (R51, R61, D27). -/
def Memory.read : Memory → Nat → Option Byte
  | [], _ => none
  | (a', b) :: m, a => if a = a' then some b else Memory.read m a

/-- Store one byte, keeping the offsets strictly rising. -/
def Memory.write : Memory → Nat → Byte → Memory
  | [], a, b => [(a, b)]
  | (a', b') :: m, a, b =>
    if a < a' then (a, b) :: (a', b') :: m
    else if a = a' then (a, b) :: m
    else (a', b') :: Memory.write m a b

/-- Store consecutive bytes from an offset up. -/
def Memory.writeBytes : Memory → Nat → List Byte → Memory
  | m, _, [] => m
  | m, a, b :: bs => Memory.writeBytes (m.write a b) (a + 1) bs

/-- Every listed offset lies above a bound, and they rise strictly. -/
def Memory.risesFrom : Nat → Memory → Bool
  | _, [] => true
  | n, (a, _) :: m => decide (n ≤ a) && Memory.risesFrom (a + 1) m

/-- The canonical form: offsets strictly rising. (An unlisted offset reads as no value, so no listed byte equals it.) -/
def Memory.wf (m : Memory) : Bool := Memory.risesFrom 0 m

/-- What the sink does with a write: it stores one wholly inside `0 .. W*H*PIXEL_SIZE - 1`, and `FB_OOB_POLICY` decides the fate of
every other (R55, D9). -/
def sinkStore (c : Config) (off : Int) (v : List Byte) (m : Memory) : Memory :=
  if 0 ≤ off ∧ off + v.length ≤ fbSize c then m.writeBytes off.toNat v
  else
    match c.fbOobPolicy with
    | .ignore => m

/-- What an output does to the framebuffer: a write reaches the sink, a diagnostic does nothing (R202). -/
def applyOutput (c : Config) (m : Memory) : Output → Memory
  | .memWrite off v => sinkStore c off v m
  | .diag _ => m

/-- "the result of applying the recorded writes in order" (R51), over a framebuffer with nothing stored since attach. -/
def replay (c : Config) (outs : List Output) : Memory := outs.foldl (applyOutput c) []

/-! ### The inbox -/

/-- The events the host has still to deliver. -/
def State.setInbox (s : State) (l : List Event) : State := { s with inbox := l }

/-! ### The outputs -/

/-- `MemWrite(off, n, v)` (R51): hand the sink the bytes and record the write. -/
def State.memWrite (s : State) (off : Int) (v : List Byte) : State :=
  { s with fb := sinkStore s.cfg off v s.fb, outputs := s.outputs ++ [.memWrite off v] }

/-- `Report(Diag(op))` (R202): append one message to the history. -/
def State.report (s : State) (op : Byte) : State :=
  { s with outputs := s.outputs ++ [.diag op] }

/-- `if DIAG_UNHANDLED: Report(Diag(S.command_code))`, the pseudocode of R148 to R158 (D16). -/
def State.reportUnhandled (s : State) : State :=
  if s.cfg.diagUnhandled then s.report s.commandCode else s

/-! ### The command fields -/

/-- An opcode byte and its argument count start a command with no argument yet (the three writes of R102). -/
def State.beginCommand (s : State) (op : Byte) (n : Nat) : State :=
  { s with commandCode := op, commandSize := n, commandIndex := 0 }

/-- Zero `command_size` and `command_index`: in-flight accumulation is discarded (R110, R221). -/
def State.discardCommand (s : State) : State :=
  { s with commandSize := 0, commandIndex := 0 }

/-- Store an argument byte at `command_index` and count it (R105, R26). -/
def State.pushArgument (s : State) (b : Byte) : State :=
  { s with commandBuf := s.commandBuf.setIfInBounds s.commandIndex b, commandIndex := s.commandIndex + 1 }

/-! ### The window and the cursor -/

/-- `SetColumnWindow(start, end)` (R131). -/
def State.setColumnWindow (s : State) (first last : Word) : State :=
  { s with columnStart := first, columnEnd := last, activeColumn := first }

/-- The raw page value less the page offset under vertical mirror, modulo 65536 (R132, D5). -/
def pageValue (vmirror : Bool) (v : Word) : Word :=
  if vmirror then u16 (v.toNat - pageOffset) else v

/-- `SetPageWindow(start, end)` (R132): the cursor takes the offset start (D23). -/
def State.setPageWindow (s : State) (first last : Word) : State :=
  { s with
    pageStart := pageValue s.vmirror first
    pageEnd := pageValue s.vmirror last
    activePage := pageValue s.vmirror first }

/-- Place the cursor (R29). -/
def State.setCursor (s : State) (c p : Word) : State :=
  { s with activeColumn := c, activePage := p }

/-- The full-panel window and the cursor at its origin, with no page offset (R220, R221, D13). -/
def State.fullPanel (s : State) : State :=
  { s with
    columnStart := 0#16, columnEnd := u16 (s.cfg.width - 1), activeColumn := 0#16
    pageStart := 0#16, pageEnd := u16 (s.cfg.height - 1), activePage := 0#16 }

end Sys2Proof.Machine
end

