-- ==== Sys2Proof/Machine/Flags.lean ====
section
/-! DEFINITION. The block has no condition codes (spec/10_state.md R21): its flags are the write latch `ram_write` (R27) and
the three orientation bits (R30). -/

namespace Sys2Proof.Machine

/-- `S.ram_write <- true` (R144). -/
def State.setLatch (s : State) : State := { s with ramWrite := true }

/-- `S.ram_write <- false` (R102, R221). -/
def State.clearLatch (s : State) : State := { s with ramWrite := false }

/-- Write the three orientation bits together (R30). -/
def State.setOrientation (s : State) (swap hmirror vmirror : Bool) : State :=
  { s with swap := swap, hmirror := hmirror, vmirror := vmirror }

/-- `scanning_direction = vmirror ++ hmirror ++ swap` (R30, R79): bit 2 vertical mirror, bit 1 horizontal mirror, bit 0
swap. -/
def State.scanningDirection (s : State) : BitVec 3 :=
  BitVec.ofBool s.vmirror ++ (BitVec.ofBool s.hmirror ++ BitVec.ofBool s.swap)

end Sys2Proof.Machine
end

