-- ==== Sys2Proof/Machine/Operands.lean ====
section
/-! DEFINITION. What the operands stand for: the `MADCTL` argument's flags (spec/30_encoding.md R78), the colour sample's
fields and the pixel they decode to (R82; spec/42_pixel_pipeline.md R175), and the place on the panel of a cursor
(R172 to R176; spec/20_memory.md R52). The 16-bit arguments and the samples are put together by Sys2Proof/Decode.lean. -/

namespace Sys2Proof.Machine

/-! ### The orientation argument -/

/-- Take the three flags from the `MADCTL` argument at the bits `MADCTL_BITS` names; the others are ignored (R78, R145). -/
def State.setOrientationFrom (s : State) (a : Byte) : State :=
  s.setOrientation
    (a.getLsb s.cfg.madctlBits.swap) (a.getLsb s.cfg.madctlBits.hmirror) (a.getLsb s.cfg.madctlBits.vmirror)

/-! ### The colour sample -/

/-- A normalized 4-channel pixel. -/
structure Pixel where
  r : Byte
  g : Byte
  b : Byte
  a : Byte
deriving DecidableEq, Repr

/-- `r5`, bits 15:11 of the sample (R82). -/
def sampleR5 (s : Word) : BitVec 5 := s.extractLsb' 11 5

/-- `g6`, bits 10:5 of the sample (R82). -/
def sampleG6 (s : Word) : BitVec 6 := s.extractLsb' 5 6

/-- `b5`, bits 4:0 of the sample (R82). -/
def sampleB5 (s : Word) : BitVec 5 := s.extractLsb' 0 5

/-- `Decode565(s)` (R175): each field placed in the high bits of its channel, the low bits zero (D22), full opacity (D15). -/
def decode565 (s : Word) : Pixel where
  r := (sampleR5 s).setWidth 8 * 8#8
  g := (sampleG6 s).setWidth 8 * 4#8
  b := (sampleB5 s).setWidth 8 * 8#8
  a := 0xFF#8

/-- Byte `i` of the pixel of sample `s` written at `off`: the channel that `PIXEL_LAYOUT` puts there (R53), or the free value
where it puts none (notes/assumptions/4.md). -/
def pixelByte (c : Config) (off : Int) (s : Word) (i : Nat) : Byte :=
  if i = c.pixelLayout.r then (decode565 s).r
  else if i = c.pixelLayout.g then (decode565 s).g
  else if i = c.pixelLayout.b then (decode565 s).b
  else if i = c.pixelLayout.a then (decode565 s).a
  else c.paddingByte off s i

/-- The `PIXEL_SIZE` bytes of a pixel in the framebuffer, lowest offset first (R51, R53). -/
def pixelBytes (c : Config) (off : Int) (s : Word) : List Byte := (List.range c.pixelSize).map (pixelByte c off s)

/-! ### The place on the panel -/

/-- Mirroring "a value `v` on an axis of size `S` means `v' = S - 1 - v`", on ℤ (R174, D8). -/
def mirrored (flag : Bool) (size : Nat) (v : Int) : Int :=
  if flag then ((size : Int) - 1) - v else v

/-- `Orient(c, p)` (R172, R173): the axis size is that of the device axis the result feeds (R174, D7). A coordinate
off the panel is not clipped: R230's remark that page rows from 0xFFE0 up are never written, which can fail on a panel with `W`
or `H` of 65504 or more, in either orientation, is left aside there (notes/assumptions/16.md). -/
def State.orient (s : State) (c p : Int) : Int × Int :=
  if s.swap then (mirrored s.hmirror s.cfg.width p, mirrored s.vmirror s.cfg.height c)
  else (mirrored s.hmirror s.cfg.width c, mirrored s.vmirror s.cfg.height p)

/-- The device coordinates the cursor stands for now. -/
def State.cursorPoint (s : State) : Int × Int := s.orient s.activeColumn.toNat s.activePage.toNat

/-- A square on ℤ. -/
def square (v : Int) : Int := v * v

/-- `InMask(x, y)` (R176): inside or on the circle of `radius` about `(radius, radius)`, on ℤ. -/
def inMask (c : Config) (p : Int × Int) : Bool :=
  decide (square (p.1 - radius c) + square (p.2 - radius c) ≤ square (radius c))

/-- `off(x, y) = (y * W + x) * PIXEL_SIZE`, on ℤ (R52). -/
def pixelOffset (c : Config) (p : Int × Int) : Int := (p.2 * c.width + p.1) * c.pixelSize

/-- `cursor + 1 > end` on ℤ reloads the axis from `start` and carries; otherwise the cursor goes up by one (R178, R179,
R180). Answers the new cursor and whether it carries into the other axis. -/
def nextOnAxis (cur first last : Word) : Word × Bool :=
  if cur.toNat + 1 > last.toNat then (first, true) else (cur + 1#16, false)

end Sys2Proof.Machine
end

