-- ==== Sys2Proof/Machine/Accepted.lean ====
section
/-! DEFINITION. The commands "accepted, no state change" (spec/41_commands.md section 2, R133 to R143): the pseudocode of each
is `skip`, and none reports a diagnostic. -/

namespace Sys2Proof.Machine

/-- `NOP`, no-op: `skip` (R133). -/
def execNop (s : State) : Result := .next s

/-- `SLPIN`, sleep-in: the block has no sleep state: `skip` (R134, R211). -/
def execSlpin (s : State) : Result := .next s

/-- `SLPOUT`, sleep-out: `skip` (R135, R211). -/
def execSlpout (s : State) : Result := .next s

/-- `DISPON`, display-on: `skip` (R136, R211). -/
def execDispon (s : State) : Result := .next s

/-- `DISPOFF`, display-off: it neither blanks nor freezes the framebuffer: `skip` (R137, R211). -/
def execDispoff (s : State) : Result := .next s

/-- `INVON`, inversion-on: pixel values are not inverted: `skip` (R138). -/
def execInvon (s : State) : Result := .next s

/-- `INVOFF`, inversion-off: `skip` (R139). -/
def execInvoff (s : State) : Result := .next s

/-- `SWRESET`, software-reset: it is not the reset line and restores nothing: `skip` (R140). -/
def execSwreset (s : State) : Result := .next s

/-- `PWCTR1`, power-control-1: three uninterpreted arguments: `skip` (R141, R81). -/
def execPwctr1 (_a0 _a1 _a2 : Byte) (s : State) : Result := .next s

/-- `COLMOD`, pixel-format-set: the wire format stays RGB 5-6-5: `skip` (R142, R84). -/
def execColmod (_a0 : Byte) (s : State) : Result := .next s

/-- `VMCTR1`, VCOM-control: one uninterpreted argument: `skip` (R143, R81). -/
def execVmctr1 (_a0 : Byte) (s : State) : Result := .next s

end Sys2Proof.Machine
end

