-- ==== Sys2Proof/Machine/DataBytes.lean ====
section
/-! DEFINITION. What the bytes of a DATA buffer do: an argument byte (spec/40_protocol.md R105, R107) and a colour sample
(spec/42_pixel_pipeline.md R170). The dispatch that the completing argument byte brings about is the dispatcher's
(Sys2Proof/Machine/Protocol.lean, R130). -/

namespace Sys2Proof.Machine

/-- `ARG`: the byte is stored at `command_index` and counted while `command_index < command_size`, else it is dropped without
any state change (R105, R107). -/
def execArg (b : Byte) (s : State) : Result :=
  .next (if s.commandIndex < s.commandSize then s.pushArgument b else s)

/-- `Advance()`: the column axis fastest when `swap` is clear, the page axis fastest when it is set (R178, R179). -/
def State.advance (s : State) : State :=
  let col := nextOnAxis s.activeColumn s.columnStart s.columnEnd
  let page := nextOnAxis s.activePage s.pageStart s.pageEnd
  if s.swap then s.setCursor (if page.2 then col.1 else s.activeColumn) page.1
  else s.setCursor col.1 (if col.2 then page.1 else s.activePage)

/-- Steps 1 to 4 of `PixelStep(s)`: the pixel goes to the framebuffer at the cursor's point if the mask passes it, even at
an offset outside the framebuffer; otherwise nothing is written (R170, R177). -/
def State.plot (s : State) (v : Word) : State :=
  if inMask s.cfg s.cursorPoint then
    s.memWrite (pixelOffset s.cfg s.cursorPoint) (pixelBytes s.cfg (pixelOffset s.cfg s.cursorPoint) v)
  else s

/-- `PIX`: `PixelStep(s)`; the cursor advances whether or not the pixel was written (R170, R181). -/
def execPix (v : Word) (s : State) : Result := .next (s.plot v).advance

end Sys2Proof.Machine
end

