-- ==== Sys2Proof/Machine/Unhandled.lean ====
section
/-! DEFINITION. The commands the Command Table lists and the dispatcher does not name (spec/41_commands.md section 6, R148 to
R158), whose uninterpreted arguments change no state and which report their opcode under `DIAG_UNHANDLED` (D16); and the
unrecognised opcode (R159), which always reports. -/

namespace Sys2Proof.Machine

/-- `PWCTR2`, power-control-2: `if DIAG_UNHANDLED: Report(Diag(S.command_code))` (R148). -/
def execPwctr2 (_a0 : Byte) (s : State) : Result := .next s.reportUnhandled

/-- `INVCTR`, inversion-control: `if DIAG_UNHANDLED: Report(Diag(S.command_code))` (R149). -/
def execInvctr (_a0 : Byte) (s : State) : Result := .next s.reportUnhandled

/-- `PWCTR3`, power-control-3: `if DIAG_UNHANDLED: Report(Diag(S.command_code))` (R150). -/
def execPwctr3 (_a0 _a1 : Byte) (s : State) : Result := .next s.reportUnhandled

/-- `PWCTR4`, power-control-4: `if DIAG_UNHANDLED: Report(Diag(S.command_code))` (R151). -/
def execPwctr4 (_a0 _a1 : Byte) (s : State) : Result := .next s.reportUnhandled

/-- `PWCTR5`, power-control-5: `if DIAG_UNHANDLED: Report(Diag(S.command_code))` (R152). -/
def execPwctr5 (_a0 _a1 : Byte) (s : State) : Result := .next s.reportUnhandled

/-- `DISSET5`, display-settings-5: `if DIAG_UNHANDLED: Report(Diag(S.command_code))` (R153). -/
def execDisset5 (_a0 _a1 : Byte) (s : State) : Result := .next s.reportUnhandled

/-- `FRMCTR1`, frame-rate-control-1: `if DIAG_UNHANDLED: Report(Diag(S.command_code))` (R154). -/
def execFrmctr1 (_a0 _a1 _a2 : Byte) (s : State) : Result := .next s.reportUnhandled

/-- `FRMCTR2`, frame-rate-control-2: `if DIAG_UNHANDLED: Report(Diag(S.command_code))` (R155). -/
def execFrmctr2 (_a0 _a1 _a2 : Byte) (s : State) : Result := .next s.reportUnhandled

/-- `FRMCTR3`, frame-rate-control-3: `if DIAG_UNHANDLED: Report(Diag(S.command_code))` (R156). -/
def execFrmctr3 (_a0 _a1 _a2 _a3 _a4 _a5 : Byte) (s : State) : Result := .next s.reportUnhandled

/-- `GMCTRP1`, positive gamma correction: `if DIAG_UNHANDLED: Report(Diag(S.command_code))` (R157). -/
def execGmctrp1 (_a : Vector Byte 16) (s : State) : Result := .next s.reportUnhandled

/-- `GMCTRN1`, negative gamma correction: `if DIAG_UNHANDLED: Report(Diag(S.command_code))` (R158). -/
def execGmctrn1 (_a : Vector Byte 16) (s : State) : Result := .next s.reportUnhandled

/-- `UNKNOWN`, any byte outside the `OPCODE_MAP` image: `Report(Diag(S.command_code))` (R159, R86). -/
def execUnknown (_op : Byte) (s : State) : Result := .next (s.report s.commandCode)

end Sys2Proof.Machine
end

