-- ==== Sys2Proof/Machine/Window.lean ====
section
/-! DEFINITION. The commands that set state (spec/41_commands.md sections 3 to 5): memory write, orientation, and the two
window commands. -/

namespace Sys2Proof.Machine

/-- `RAMWR`: `S.ram_write <- true`, "the *only* way the data pipeline activates"; the cursor does not move (R144). -/
def execRamwr (s : State) : Result := .next s.setLatch

/-- `MADCTL`: the argument's three flags become the orientation; the window and the cursor stay (R145, R161). -/
def execMadctl (a : Byte) (s : State) : Result := .next (s.setOrientationFrom a)

/-- `CASET`: the page window when `swap` is set, else the column window (R146). -/
def execCaset (first last : Word) (s : State) : Result :=
  .next (if s.swap then s.setPageWindow first last else s.setColumnWindow first last)

/-- `PASET`: the column window when `swap` is set, else the page window (R147). -/
def execPaset (first last : Word) (s : State) : Result :=
  .next (if s.swap then s.setColumnWindow first last else s.setPageWindow first last)

end Sys2Proof.Machine
end

