-- ==== Sys2Proof/Machine/Dispatch.lean ====
section
/-! DEFINITION. One arm per row of spec/opcode_table.json, each one call of its meaning. A command's meaning is what the
dispatcher runs once its arguments are complete (spec/41_commands.md R130). -/

namespace Sys2Proof.Machine

def exec (i : Instr) (s : State) : Host.Outcome State Fault Refusal :=
  match i with
  | .nop => Sys2Proof.Machine.execNop s
  | .swreset => Sys2Proof.Machine.execSwreset s
  | .slpin => Sys2Proof.Machine.execSlpin s
  | .slpout => Sys2Proof.Machine.execSlpout s
  | .invoff => Sys2Proof.Machine.execInvoff s
  | .invon => Sys2Proof.Machine.execInvon s
  | .dispoff => Sys2Proof.Machine.execDispoff s
  | .dispon => Sys2Proof.Machine.execDispon s
  | .caset first last => Sys2Proof.Machine.execCaset first last s
  | .paset first last => Sys2Proof.Machine.execPaset first last s
  | .ramwr => Sys2Proof.Machine.execRamwr s
  | .madctl a => Sys2Proof.Machine.execMadctl a s
  | .colmod a0 => Sys2Proof.Machine.execColmod a0 s
  | .frmctr1 a0 a1 a2 => Sys2Proof.Machine.execFrmctr1 a0 a1 a2 s
  | .frmctr2 a0 a1 a2 => Sys2Proof.Machine.execFrmctr2 a0 a1 a2 s
  | .frmctr3 a0 a1 a2 a3 a4 a5 => Sys2Proof.Machine.execFrmctr3 a0 a1 a2 a3 a4 a5 s
  | .invctr a0 => Sys2Proof.Machine.execInvctr a0 s
  | .disset5 a0 a1 => Sys2Proof.Machine.execDisset5 a0 a1 s
  | .pwctr1 a0 a1 a2 => Sys2Proof.Machine.execPwctr1 a0 a1 a2 s
  | .pwctr2 a0 => Sys2Proof.Machine.execPwctr2 a0 s
  | .pwctr3 a0 a1 => Sys2Proof.Machine.execPwctr3 a0 a1 s
  | .pwctr4 a0 a1 => Sys2Proof.Machine.execPwctr4 a0 a1 s
  | .pwctr5 a0 a1 => Sys2Proof.Machine.execPwctr5 a0 a1 s
  | .vmctr1 a0 => Sys2Proof.Machine.execVmctr1 a0 s
  | .gmctrp1 a => Sys2Proof.Machine.execGmctrp1 a s
  | .gmctrn1 a => Sys2Proof.Machine.execGmctrn1 a s
  | .unknown op => Sys2Proof.Machine.execUnknown op s
  | .arg b => Sys2Proof.Machine.execArg b s
  | .pix v => Sys2Proof.Machine.execPix v s

end Sys2Proof.Machine
end

