-- ==== Sys2Proof/Machine/Protocol.lean ====
section
/-! DEFINITION. The dispatcher's entry (spec/41_commands.md R130) and the protocol state machine (spec/40_protocol.md): what
each event of the host does, bytes under either mode and the four line transitions (and spec/70_reset_and_hazards.md R221,
R222). -/

namespace Sys2Proof.Machine

/-! ### The dispatcher -/

/-- `Dispatch()`: decode `command_code` through the map, give the command its arguments `a[i] = command_buf[i]`, and run its
meaning (R130). -/
def dispatch (s : State) : Result :=
  exec (opcodeInstr s.cfg.opcodeMap s.commandCode s.commandBuf) s

/-! ### The command stream -/

/-- What an opcode byte writes before any dispatch (the assignments of R102's loop): the latch clear under `PER_OPCODE`, and
the command fields. -/
def State.takeOpcode (s : State) (b : Byte) : State :=
  (if s.cfg.latchClear = .perOpcode then s.clearLatch else s).beginCommand b (opArgCount s.cfg.opcodeMap b)

/-- The body of the loop of R102 for one opcode byte: a new command begins, and one without arguments is dispatched before
the next byte. -/
def acceptOpcode (b : Byte) (s : State) : Result :=
  if (s.takeOpcode b).commandSize = 0 then dispatch (s.takeOpcode b) else .next (s.takeOpcode b)

/-- A non-empty COMMAND buffer (R102). -/
def commandStream (buf : List Byte) (s : State) : Result :=
  runEach acceptOpcode buf (if s.cfg.latchClear = .perBuffer then s.clearLatch else s)

/-! ### The data stream -/

/-- The body of the loop of R105 for one argument byte: the byte that completes the command dispatches it, a dropped byte
never does (R106, R107). -/
def acceptArgument (b : Byte) (s : State) : Result :=
  if s.commandIndex < s.commandSize then
    andThen (exec (.arg b) s) fun t => if t.commandIndex = t.commandSize then dispatch t else .next t
  else exec (.arg b) s

/-- `ArgumentStream(buf)` (R105). -/
def argumentStream (buf : List Byte) (s : State) : Result := runEach acceptArgument buf s

/-- `PixelStream(buf)`: one `PixelStep` a sample, in order (R104, R171). -/
def pixelStream (buf : List Byte) (s : State) : Result :=
  runEach (fun v => exec (.pix v)) (samplesOf s.cfg.sampleOrder buf) s

/-- A non-empty DATA buffer: the choice is made once per buffer (R103). -/
def dataStream (buf : List Byte) (s : State) : Result :=
  if s.ramWrite then pixelStream buf s else argumentStream buf s

/-! ### Events -/

/-- `Bytes(buf)`: an empty buffer is a no-op in both modes (R100), any other goes by the mode read once (R101). -/
def handleBytes (buf : List Byte) (s : State) : Result :=
  match buf with
  | [] => .next s
  | b :: bs =>
    match s.mode with
    | .command => commandStream (b :: bs) s
    | .data => dataStream (b :: bs) s

/-- `ModeLine(m)` writes the mode and nothing else (R109). -/
def State.setMode (s : State) (m : Mode) : State := { s with mode := m }

/-- `ResetAssert`, the chip reset operation (R221): the full-panel window, the latch clear, in-flight accumulation
discarded. -/
def State.chipReset (s : State) : State := s.fullPanel.clearLatch.discardCommand

/-- What the core does with one event. -/
def handle (e : Event) (s : State) : Result :=
  match e with
  | .bytes buf => handleBytes buf s
  | .modeLine m => .next (s.setMode m)
  | .selectAssert => .next s.discardCommand
  | .selectDeassert => .next s
  | .resetAssert => .next s.chipReset
  | .resetDeassert => .next s

/-- Take the next event off the inbox and handle it to completion (R6, R11). With no event to take the core does nothing:
it has "no internal suspension, blocking, or background work" (R6; notes/assumptions/7.md). -/
def deliverNext (s : State) : Result :=
  match s.inbox with
  | [] => .next s
  | e :: rest => handle e (s.setInbox rest)

/-! ### Placing one instruction for the next step -/

/-- The event that brings about one word of spec/opcode_table.json next (notes/assumptions/9.md). A command without arguments
is a COMMAND buffer of its opcode; one with arguments is the DATA buffer of its (zero) arguments, its opcode having just
been accepted; a sample is a DATA buffer while `ram_write` is true. -/
def State.placeWord (s : State) (nbits w : Nat) : State :=
  match tableWordBytes s.cfg.sampleOrder nbits w with
  | some (.command, op :: rest) =>
    let n := opArgCount s.cfg.opcodeMap op
    if n = 0 then { s with mode := .command, inbox := .bytes [op] :: s.inbox }
    else
      { s.beginCommand op n with
        mode := .data, ramWrite := false, inbox := .bytes (rest.take n) :: s.inbox }
  | some (.pixel, bytes) => { s with mode := .data, ramWrite := true, inbox := .bytes bytes :: s.inbox }
  | _ => s

end Sys2Proof.Machine
end

