-- ==== Sys2Proof/Machine/Step.lean ====
section
/-! DEFINITION. One step of the machine: the next event of the host, handled to completion (spec/00_scope.md R6). -/

namespace Sys2Proof.Machine

/-- The core takes a step when the host delivers an event (R6). -/
def step (s : State) : Host.Outcome State Fault Refusal := deliverNext s

/-- `s` with one word of spec/opcode_table.json placed so that the very next step runs it (notes/assumptions/9.md). -/
def State.withFetchWord (s : State) (nbits w : Nat) : State := s.placeWord nbits w

end Sys2Proof.Machine
end

