-- ==== Sys2Proof/Safety.lean ====
section
/-! DEFINITION. What counts as a good state and a good answer, in the terms the statements use: the invariants the spec
names (spec/10_state.md R24, R32, R33; spec/20_memory.md R50, R51, R54, R57) and what two states must share to be told
apart by no later event (R26, R61). -/

namespace Sys2Proof.Machine

/-- The answer is a next state (R200: every event completes). -/
def Completes (r : Result) : Prop := ∃ t, r = .next t

/-- The command fields: `0 <= command_index <= command_size <= 16` (R32), and a size other than 0 is that of the opcode last
read (R24, R130). -/
def State.CommandOk (s : State) : Prop :=
  s.commandIndex ≤ s.commandSize ∧ s.commandSize ≤ 16 ∧
  (s.commandSize = 0 ∨ s.commandSize = opArgCount s.cfg.opcodeMap s.commandCode)

/-- One axis of the window with its cursor: inside a well-formed window, at the start of a degenerate one (R33). -/
def AxisOk (first last cur : Word) : Prop :=
  (first.toNat ≤ last.toNat → first.toNat ≤ cur.toNat ∧ cur.toNat ≤ last.toNat) ∧
  (last.toNat < first.toNat → cur = first)

/-- Both axes of the window with their cursors (R33). -/
def State.CursorOk (s : State) : Prop :=
  AxisOk s.columnStart s.columnEnd s.activeColumn ∧ AxisOk s.pageStart s.pageEnd s.activePage

/-- The framebuffer is in its canonical form, lists only its own offsets (R50), and holds "the result of applying the
recorded writes in order" (R51). -/
def State.FramebufferOk (s : State) : Prop :=
  s.fb.wf = true ∧ (∀ cell ∈ s.fb, cell.1 < fbSize s.cfg) ∧ s.fb = replay s.cfg s.outputs

/-- A write is one whole pixel at a multiple of the pixel's size (R54 and R57, whose pixel has the default 4 bytes), at no
negative offset (R176). -/
def Output.WholePixel (c : Config) : Output → Prop
  | .memWrite off v => v.length = c.pixelSize ∧ off % c.pixelSize = 0 ∧ 0 ≤ off
  | .diag _ => True

/-- The output is a diagnostic. -/
def Output.IsDiag : Output → Prop
  | .memWrite _ _ => False
  | .diag _ => True

/-- The next event is a non-empty buffer of pixels (R103). -/
def State.PixelsNext (s : State) : Prop :=
  s.mode = .data ∧ s.ramWrite = true ∧ ∃ b bs rest, s.inbox = .bytes (b :: bs) :: rest

/-- The next event is a non-empty COMMAND buffer (R102). -/
def State.OpcodesNext (s : State) : Prop :=
  s.mode = .command ∧ ∃ b bs rest, s.inbox = .bytes (b :: bs) :: rest

/-- What one opcode byte does once the latch is as the policy has it (R102): the command fields take it, and if it is a whole
frame the instruction it decodes to runs. -/
def opcodeTaken (b : Byte) (latch : Bool) (u : State) : Result :=
  let v : State :=
    { u with
      ramWrite := latch, commandCode := b, commandSize := opArgCount u.cfg.opcodeMap b, commandIndex := 0 }
  match decode u.cfg .command [b] with
  | .ok (i, _) => exec i v
  | .error _ => .next v

/-- The state but for what the core never reads: the framebuffer (R61) and the output history (R202). -/
def State.withoutOutputs (s : State) : State := { s with fb := [], outputs := [] }

/-- Two states that differ at most in the argument buffer, and there only at entries not yet accumulated for the command in
flight (R26). -/
def SameButStale (s t : State) : Prop :=
  { s with commandBuf := t.commandBuf } = t ∧
  ∀ i : Fin 16, i.val < s.commandIndex → s.commandBuf[i] = t.commandBuf[i]

end Sys2Proof.Machine
end

