-- ==== Sys2Proof/Certificates/Slice0/Obligations.lean ====
section
/-! DEFINITION. The statements about the model, each from a rule of spec/. A next state written as a record update of the
old one is also the frame: every field the update does not name is unchanged, the framebuffer and the outputs among them. -/

open Sys2Proof Sys2Proof.Machine

/-! ### Encoding -/

/-- Decode and encode agree (R71, R76, R77, R80, R83): under every injective `OPCODE_MAP` and either `SAMPLE_ORDER`, the
bytes of every well-formed instruction, whatever follows them, decode back to it with every operand intact. -/
def Obligations.EncodedInstructionsDecodeBack : Prop :=
  ∀ (cfg : Config) (i : Instr) (rest : List Byte), cfg.opcodeMap.Injective → i.wf cfg.opcodeMap = true →
    decode cfg (frameKind i) (encode cfg i ++ rest) = .ok (i, rest)

/-- The other direction: the bytes an instruction was decoded from are the ones it encodes to, and it is well formed and of
the kind asked for, under every map. -/
def Obligations.DecodedBytesEncodeBack : Prop :=
  ∀ (cfg : Config) (k : FrameKind) (bytes rest : List Byte) (i : Instr), decode cfg k bytes = .ok (i, rest) →
    encode cfg i ++ rest = bytes ∧ frameKind i = k ∧ i.wf cfg.opcodeMap = true

/-- R77, R76: under an injective map an opcode byte is the value of at most one command; the byte of a command decodes to
that command and no other, with that command's argument count, and every byte outside the image decodes to `UNKNOWN`, with
none. -/
def Obligations.EveryOpcodeByteDecodesToOneCommand : Prop :=
  ∀ m : OpcodeMap, m.Injective → ∀ (b : Byte) (a : Vector Byte 16),
    (∀ c d : Command, m.byte c = b → m.byte d = b → c = d) ∧
    (∀ c : Command, m.byte c = b → opcodeInstr m b a = commandInstr c a ∧ opArgCount m b = argCount c) ∧
    ((∀ c : Command, m.byte c ≠ b) → opcodeInstr m b a = .unknown b ∧ opArgCount m b = 0)

/-- The Command Table (R75), over every injective map. -/
def Obligations.CommandTableCounts : Prop :=
  ∀ m : OpcodeMap, m.Injective →
    (∀ c ∈ [Command.madctl, .pwctr2, .invctr, .vmctr1, .colmod], opArgCount m (m.byte c) = 1) ∧
    (∀ c ∈ [Command.pwctr3, .pwctr4, .pwctr5, .disset5], opArgCount m (m.byte c) = 2) ∧
    (∀ c ∈ [Command.frmctr1, .frmctr2, .pwctr1], opArgCount m (m.byte c) = 3) ∧
    (∀ c ∈ [Command.caset, .paset], opArgCount m (m.byte c) = 4) ∧
    opArgCount m (m.byte .frmctr3) = 6 ∧
    (∀ c ∈ [Command.gmctrp1, .gmctrn1], opArgCount m (m.byte c) = 16) ∧
    (∀ c ∈ [Command.nop, .swreset, .slpin, .slpout, .dispon, .dispoff, .invon, .invoff, .ramwr],
      opArgCount m (m.byte c) = 0) ∧
    (∀ b, (∀ c, m.byte c ≠ b) → opArgCount m b = 0)

/-- A few words written out from the encodings of spec/30_encoding.md. The byte values are the default `OPCODE_MAP`, the
spec's own choice D1 (log entry 2), and the sample's byte order is D3 (log entry 3). That `decodeTableWord` reads an 8-bit
word as an opcode with zero arguments and a 16-bit word as a sample is the model's own choice (log entry 10). -/
def Obligations.SpecEncodingsDecode : Prop :=
  decodeTableWord 8 0x00 = some .nop ∧ decodeTableWord 8 0x2C = some .ramwr ∧
  decodeTableWord 8 0x99 = some (.unknown 0x99) ∧ decodeTableWord 16 0xF800 = some (.pix 0xF800) ∧
  decode defaultConfig .command [0x2A, 0x00, 0x05, 0x00, 0x0A] = .ok (.caset 5 10, []) ∧
  decode defaultConfig .command [0x2B, 0x00, 0x20, 0x00, 0xEF] = .ok (.paset 32 239, []) ∧
  decode defaultConfig .command [0x36, 0xA0] = .ok (.madctl 0xA0, []) ∧
  decode defaultConfig .command [0xC0, 0xA2, 0x02, 0x84] = .ok (.pwctr1 0xA2 0x02 0x84, []) ∧
  decode defaultConfig .command [0xB3, 1, 0x2C, 0x2D, 1, 0x2C, 0x2D] = .ok (.frmctr3 1 0x2C 0x2D 1 0x2C 0x2D, []) ∧
  decode defaultConfig .argument [0x55, 0x66] = .ok (.arg 0x55, [0x66]) ∧
  decode defaultConfig .pixel [0x12, 0x34] = .ok (.pix 0x1234, [])

/-! ### The commands -/

/-- The commands "accepted, no state change": each of them completes and leaves every field as it was, the framebuffer and
the diagnostics among them. -/
def Obligations.AcceptedCommandsChangeNothing : Prop :=
  ∀ (s : State) (a b c : Byte),
    exec .nop s = .next s ∧ exec .slpin s = .next s ∧ exec .slpout s = .next s ∧ exec .dispon s = .next s ∧
    exec .dispoff s = .next s ∧ exec .invon s = .next s ∧ exec .invoff s = .next s ∧ exec .swreset s = .next s ∧
    exec (.pwctr1 a b c) s = .next s ∧ exec (.colmod a) s = .next s ∧ exec (.vmctr1 a) s = .next s

/-- `RAMWR` sets the latch and nothing else: the cursor stays where it is. -/
def Obligations.RamwrSetsTheLatchOnly : Prop :=
  ∀ s : State, exec .ramwr s = .next { s with ramWrite := true }

/-- R145 with R78: under `MADCTL_BITS` at bits 7, 6 and 5 (the spec's choice D2) the argument's three top bits become the
three flags, the lower bits are ignored, and the window and the cursor are not changed; under any other placing the flags
are the bits it names. -/
def Obligations.MadctlSetsTheOrientationOnly : Prop :=
  ∀ (s : State) (a : Byte),
    exec (.madctl a) s = .next { s with
      swap := a.getLsb s.cfg.madctlBits.swap
      hmirror := a.getLsb s.cfg.madctlBits.hmirror
      vmirror := a.getLsb s.cfg.madctlBits.vmirror } ∧
    (s.cfg.madctlBits = { swap := 5, hmirror := 6, vmirror := 7 } →
      exec (.madctl a) s = .next { s with
        swap := a.getLsbD 5, hmirror := a.getLsbD 6, vmirror := a.getLsbD 7 })

/-- The packed form (R79, R30): after `MADCTL` under the default `MADCTL_BITS` (D2), `scanning_direction` is the argument's
bits 7:5. The spec marks this as derived from R78. -/
def Obligations.PackedOrientationIsTopThreeBits : Prop :=
  ∀ (s : State) (a : Byte), s.cfg.madctlBits = { swap := 5, hmirror := 6, vmirror := 7 } →
    ∃ t, exec (.madctl a) s = .next t ∧ t.scanningDirection = a.extractLsb' 5 3

/-- R146, R131, R132: the column window as given when `swap` is clear; the page window when it is set, less 32 modulo
65536 (D5, D23) when `vmirror` is set too. -/
def Obligations.CasetSetsOneWindow : Prop :=
  ∀ (s : State) (first last : Word),
    (s.swap = false → exec (.caset first last) s = .next { s with
      columnStart := first, columnEnd := last, activeColumn := first }) ∧
    (s.swap = true → s.vmirror = false → exec (.caset first last) s = .next { s with
      pageStart := first, pageEnd := last, activePage := first }) ∧
    (s.swap = true → s.vmirror = true → exec (.caset first last) s = .next { s with
      pageStart := first - 32#16, pageEnd := last - 32#16, activePage := first - 32#16 })

/-- R147, R131, R132: the column window as given when `swap` is set; the page window when it is clear, less 32 modulo
65536 (D5, D23) when `vmirror` is set. -/
def Obligations.PasetSetsOneWindow : Prop :=
  ∀ (s : State) (first last : Word),
    (s.swap = true → exec (.paset first last) s = .next { s with
      columnStart := first, columnEnd := last, activeColumn := first }) ∧
    (s.swap = false → s.vmirror = false → exec (.paset first last) s = .next { s with
      pageStart := first, pageEnd := last, activePage := first }) ∧
    (s.swap = false → s.vmirror = true → exec (.paset first last) s = .next { s with
      pageStart := first - 32#16, pageEnd := last - 32#16, activePage := first - 32#16 })

/-- R160 (which the spec marks as derived): the same orientation or window command twice in a row leaves what it leaves
once. -/
def Obligations.WindowCommandsIdempotent : Prop :=
  ∀ (s t : State) (a : Byte) (x y : Word),
    (exec (.madctl a) s = .next t → exec (.madctl a) t = .next t) ∧
    (exec (.caset x y) s = .next t → exec (.caset x y) t = .next t) ∧
    (exec (.paset x y) s = .next t → exec (.paset x y) t = .next t)

/-- R148 to R158: the commands the dispatcher does not name report the opcode under `DIAG_UNHANDLED`, report nothing without
it, and change nothing else (the treatment is the spec's choice D16). -/
def Obligations.UnhandledCommandsOnlyReport : Prop :=
  ∀ (s : State) (a b c d e f : Byte) (v : Vector Byte 16),
    ∀ i ∈ [Instr.pwctr2 a, .invctr a, .pwctr3 a b, .pwctr4 a b, .pwctr5 a b, .disset5 a b, .frmctr1 a b c,
        .frmctr2 a b c, .frmctr3 a b c d e f, .gmctrp1 v, .gmctrn1 v],
      (s.cfg.diagUnhandled = true → exec i s = .next { s with outputs := s.outputs ++ [.diag s.commandCode] }) ∧
      (s.cfg.diagUnhandled = false → exec i s = .next s)

/-- `UNKNOWN` reports the opcode whatever `DIAG_UNHANDLED` says, and changes nothing else. -/
def Obligations.UnknownOnlyReports : Prop :=
  ∀ (s : State) (op : Byte),
    exec (.unknown op) s = .next { s with outputs := s.outputs ++ [.diag s.commandCode] }

/-- One argument byte (R105's store and count, R107's drop): stored at `command_index` and counted while that is below
`command_size`, otherwise dropped with nothing changed. In a state with `command_size` at most 16, which R32 says every
reachable state is, the store is inside the buffer; that a byte at an index of 16 or more is counted and stored nowhere (the
second clause) is the model's own choice for the other states (log entry 14). The dispatch of R105 is the step's, not `ARG`'s
(log entry 15). -/
def Obligations.ArgumentByteIsStoredOrDropped : Prop :=
  ∀ (s : State) (b : Byte),
    (∀ (_ : s.commandIndex < s.commandSize) (hi : s.commandIndex < 16), exec (.arg b) s = .next { s with
      commandBuf := s.commandBuf.set s.commandIndex b hi, commandIndex := s.commandIndex + 1 }) ∧
    (s.commandIndex < s.commandSize → 16 ≤ s.commandIndex →
      exec (.arg b) s = .next { s with commandIndex := s.commandIndex + 1 }) ∧
    (s.commandSize ≤ s.commandIndex → exec (.arg b) s = .next s)

/-! ### The pixel pipeline -/

/-- Steps 1 to 4 of `PixelStep` (R170, R172, R173, R174, R176, R177, R52): the sample's pixel is written at
`(y * W + x) * PIXEL_SIZE` exactly when `(x, y)` lies in the circle, and nothing else but the cursor changes. The coordinates
are on ℤ (D8), the axis sizes those of the device axes (D7) and the radius of R9 is rounded down (D17). -/
def Obligations.PixWritesExactlyInsideTheCircle : Prop :=
  ∀ (s : State) (v : Word), ∃ t, exec (.pix v) s = .next t ∧
    t = { s with activeColumn := t.activeColumn, activePage := t.activePage, outputs := t.outputs, fb := t.fb } ∧
    ∀ c p x y r : Int, c = s.activeColumn.toNat → p = s.activePage.toNat →
      (s.swap = false → x = (if s.hmirror then (s.cfg.width - 1) - c else c) ∧
        y = (if s.vmirror then (s.cfg.height - 1) - p else p)) →
      (s.swap = true → x = (if s.hmirror then (s.cfg.width - 1) - p else p) ∧
        y = (if s.vmirror then (s.cfg.height - 1) - c else c)) →
      r = (min s.cfg.width s.cfg.height / 2 : Nat) →
      ((x - r) ^ 2 + (y - r) ^ 2 ≤ r ^ 2 →
        t.outputs = s.outputs ++ [.memWrite ((y * s.cfg.width + x) * s.cfg.pixelSize)
          (pixelBytes s.cfg ((y * s.cfg.width + x) * s.cfg.pixelSize) v)] ∧
        t.fb = sinkStore s.cfg ((y * s.cfg.width + x) * s.cfg.pixelSize)
          (pixelBytes s.cfg ((y * s.cfg.width + x) * s.cfg.pixelSize) v) s.fb) ∧
      (r ^ 2 < (x - r) ^ 2 + (y - r) ^ 2 → t.outputs = s.outputs ∧ t.fb = s.fb)

/-- R178, R181: with `swap` clear the column cursor advances first and carries into the page cursor, after every sample,
whatever the mask and the sink did with it. The comparison is on ℤ (R180, D6). -/
def Obligations.PixAdvancesColumnFirst : Prop :=
  ∀ (s : State) (v : Word), s.swap = false → ∃ t, exec (.pix v) s = .next t ∧
    (s.activeColumn.toNat + 1 > s.columnEnd.toNat →
      t.activeColumn = s.columnStart ∧
      (s.activePage.toNat + 1 > s.pageEnd.toNat → t.activePage = s.pageStart) ∧
      (s.activePage.toNat + 1 ≤ s.pageEnd.toNat → t.activePage.toNat = s.activePage.toNat + 1)) ∧
    (s.activeColumn.toNat + 1 ≤ s.columnEnd.toNat →
      t.activeColumn.toNat = s.activeColumn.toNat + 1 ∧ t.activePage = s.activePage)

/-- R179, R181: with `swap` set the page cursor advances first and carries into the column cursor, after every sample. The
comparison is on ℤ (R180, D6). -/
def Obligations.PixAdvancesPageFirst : Prop :=
  ∀ (s : State) (v : Word), s.swap = true → ∃ t, exec (.pix v) s = .next t ∧
    (s.activePage.toNat + 1 > s.pageEnd.toNat →
      t.activePage = s.pageStart ∧
      (s.activeColumn.toNat + 1 > s.columnEnd.toNat → t.activeColumn = s.columnStart) ∧
      (s.activeColumn.toNat + 1 ≤ s.columnEnd.toNat → t.activeColumn.toNat = s.activeColumn.toNat + 1)) ∧
    (s.activePage.toNat + 1 ≤ s.pageEnd.toNat →
      t.activePage.toNat = s.activePage.toNat + 1 ∧ t.activeColumn = s.activeColumn)

/-- R175, R82, R53: the pixel of a sample under a well-formed `PIXEL_LAYOUT`. It has `PIXEL_SIZE` bytes, and each channel stands
at its place, its field in the high bits and the low bits zero (D22), alpha 0xFF (D15); under the defaults (D15) these are the
four bytes R, G, B, A. A byte that is no channel's place is a free value (log entry 4). -/
def Obligations.PixelCodecPlacesTheFields : Prop :=
  ∀ (c : Config) (off : Int) (v : Word), c.pixelLayout.Wf c.pixelSize →
    (pixelBytes c off v).length = c.pixelSize ∧
    (pixelBytes c off v)[c.pixelLayout.r]? = some (v.extractLsb' 11 5 ++ 0#3) ∧
    (pixelBytes c off v)[c.pixelLayout.g]? = some (v.extractLsb' 5 6 ++ 0#2) ∧
    (pixelBytes c off v)[c.pixelLayout.b]? = some (v.extractLsb' 0 5 ++ 0#3) ∧
    (pixelBytes c off v)[c.pixelLayout.a]? = some 0xFF#8 ∧
    (c.pixelSize = 4 → c.pixelLayout = { r := 0, g := 1, b := 2, a := 3 } →
      pixelBytes c off v =
        [v.extractLsb' 11 5 ++ 0#3, v.extractLsb' 5 6 ++ 0#2, v.extractLsb' 0 5 ++ 0#3, 0xFF#8])

/-- The framebuffer frame of a sample: if the mask passes the cursor's point, every byte outside its pixel at its offset reads
as before; if it does not, every byte does. -/
def Obligations.PixLeavesOtherBytes : Prop :=
  ∀ (s t : State) (v : Word), exec (.pix v) s = .next t →
    (inMask s.cfg s.cursorPoint = true → ∀ off : Int, off = pixelOffset s.cfg s.cursorPoint →
      ∀ a : Nat, (a : Int) < off ∨ off + s.cfg.pixelSize ≤ a → t.fb.read a = s.fb.read a) ∧
    (inMask s.cfg s.cursorPoint = false → ∀ a : Nat, t.fb.read a = s.fb.read a)

/-- A pixel the mask passes and that lies wholly inside the framebuffer reads back byte by byte; one that does not lie inside
is ignored (R177, R55 under `IGNORE`). -/
def Obligations.PixStoresItsPixel : Prop :=
  ∀ (s t : State) (v : Word), exec (.pix v) s = .next t → inMask s.cfg s.cursorPoint = true →
    (pixelOffset s.cfg s.cursorPoint + s.cfg.pixelSize ≤ fbSize s.cfg → ∀ i < s.cfg.pixelSize,
      t.fb.read ((pixelOffset s.cfg s.cursorPoint).toNat + i) =
        some (pixelByte s.cfg (pixelOffset s.cfg s.cursorPoint) v i)) ∧
    (fbSize s.cfg < pixelOffset s.cfg s.cursorPoint + s.cfg.pixelSize → t.fb = s.fb)

/-- The consequences R176 draws from the mask: a point that passes has both coordinates between 0 and `2 * radius`, so a
negative coordinate never passes. -/
def Obligations.MaskedPointsLieInTheSquare : Prop :=
  ∀ (c : Config) (x y : Int), inMask c (x, y) = true →
    0 ≤ x ∧ x ≤ 2 * radius c ∧ 0 ≤ y ∧ y ≤ 2 * radius c

/-- R55 (which the spec marks as derived): exactly two points that pass the mask can lie off the panel, `(2*radius, radius)`
when `W = 2*radius` and `(radius, 2*radius)` when `H = 2*radius`. The first has offset `((radius + 1) * W) * PIXEL_SIZE`, inside the
framebuffer; the second has one past its end. The spec says "inside the buffer" of every panel; on a 2 by 2 panel it is
not (log entry 11), so the statement asks for a row below `radius + 1`. -/
def Obligations.OnlyTwoMaskedPointsLieOffThePanel : Prop :=
  ∀ c : Config, 1 ≤ c.width → 1 ≤ c.height →
    inMask c (2 * radius c, radius c) = true ∧ inMask c (radius c, 2 * radius c) = true ∧
    ∀ x y : Int, inMask c (x, y) = true →
      ((c.width : Int) ≤ x →
        x = 2 * radius c ∧ y = radius c ∧ c.width = 2 * radius c ∧
        pixelOffset c (x, y) = ((radius c + 1) * c.width) * c.pixelSize ∧
        (radius c + 1 < c.height → pixelOffset c (x, y) + c.pixelSize ≤ fbSize c)) ∧
      ((c.height : Int) ≤ y →
        x = radius c ∧ y = 2 * radius c ∧ c.height = 2 * radius c ∧
        pixelOffset c (x, y) = (c.height * c.width + radius c) * c.pixelSize ∧ (fbSize c : Int) ≤ pixelOffset c (x, y))

/-- R182 (which the spec marks as derived): in both orientations the device x coordinate changes fastest. While the fast
axis does not carry, one sample leaves the point's y as it was and moves its x by one, downwards under `hmirror`. -/
def Obligations.DeviceXChangesFastest : Prop :=
  ∀ (s : State) (v : Word),
    (s.swap = false → s.activeColumn.toNat + 1 ≤ s.columnEnd.toNat) →
    (s.swap = true → s.activePage.toNat + 1 ≤ s.pageEnd.toNat) →
    ∃ t, exec (.pix v) s = .next t ∧ t.cursorPoint.2 = s.cursorPoint.2 ∧
      t.cursorPoint.1 = s.cursorPoint.1 + (if s.hmirror then -1 else 1)

/-- R183 (which the spec marks as derived), the return: in DATA mode with the latch set, a buffer of exactly as many samples
as a well-formed window has cursor pairs brings a cursor inside the window back to where it was. -/
def Obligations.FullTraversalReturnsTheCursor : Prop :=
  ∀ (s : State) (buf : List Byte) (rest : List Event), s.mode = .data → s.ramWrite = true →
    s.inbox = .bytes buf :: rest → s.columnStart.toNat ≤ s.columnEnd.toNat → s.pageStart.toNat ≤ s.pageEnd.toNat →
    s.CursorOk →
    buf.length = 2 * ((s.columnEnd.toNat - s.columnStart.toNat + 1) * (s.pageEnd.toNat - s.pageStart.toNat + 1)) →
    ∃ t, step s = .next t ∧ t.activeColumn = s.activeColumn ∧ t.activePage = s.activePage

/-- R183 (which the spec marks as derived), the visits: from the start of a well-formed window each cursor pair of the window
is reached after exactly one number of samples below the size of the window. -/
def Obligations.TraversalVisitsEachCursorPairOnce : Prop :=
  ∀ s : State, s.columnStart.toNat ≤ s.columnEnd.toNat → s.pageStart.toNat ≤ s.pageEnd.toNat →
    s.activeColumn = s.columnStart → s.activePage = s.pageStart →
    ∀ c p : Word, s.columnStart.toNat ≤ c.toNat → c.toNat ≤ s.columnEnd.toNat →
      s.pageStart.toNat ≤ p.toNat → p.toNat ≤ s.pageEnd.toNat →
      ∃! j : Nat,
        j < (s.columnEnd.toNat - s.columnStart.toNat + 1) * (s.pageEnd.toNat - s.pageStart.toNat + 1) ∧
        (State.advance^[j] s).activeColumn = c ∧ (State.advance^[j] s).activePage = p

/-! ### A step and the instructions it runs -/

/-- A step runs the decoded instruction. A COMMAND buffer of one byte that is a whole frame: the latch is cleared, the
command fields take the opcode, and the instruction runs. A pixel buffer of one sample: the instruction runs. A buffer of
one argument byte: the instruction runs, and if it completed the command the dispatcher runs that. -/
def Obligations.StepRunsTheDecodedInstruction : Prop :=
  ∀ (s : State) (buf : List Byte) (rest : List Event) (i : Instr), s.inbox = .bytes buf :: rest →
    (∀ op, buf = [op] → s.mode = .command → decode s.cfg .command buf = .ok (i, []) →
      step s = exec i { s with
        inbox := rest, ramWrite := false, commandCode := op, commandSize := 0, commandIndex := 0 }) ∧
    (s.mode = .data → s.ramWrite = true → decode s.cfg .pixel buf = .ok (i, []) →
      step s = exec i { s with inbox := rest }) ∧
    (s.mode = .data → s.ramWrite = false → decode s.cfg .argument buf = .ok (i, []) →
      step s = andThen (exec i { s with inbox := rest }) fun t =>
        if s.commandIndex < s.commandSize ∧ t.commandIndex = t.commandSize then dispatch t else .next t)

/-- R71, R105, R130: with a command in flight and no argument of it yet, a DATA buffer of exactly its arguments stores them
from index 0 and runs the instruction that the opcode and those bytes decode to, once, after the last of them. -/
def Obligations.CompletedFrameRunsItsCommand : Prop :=
  ∀ (s : State) (args : List Byte) (rest : List Event) (i : Instr), s.mode = .data → s.ramWrite = false →
    s.commandIndex = 0 → s.commandSize = args.length → args ≠ [] → s.inbox = .bytes args :: rest →
    decode s.cfg .command (s.commandCode :: args) = .ok (i, []) →
    step s = exec i { s with
      inbox := rest
      commandIndex := args.length
      commandBuf := Vector.ofFn fun k => args.getD k.val s.commandBuf[k] }

/-- A command frame end to end (R71, R88's expansion of a command with arguments): its opcode in a COMMAND buffer, the mode
line to DATA, its arguments in a DATA buffer. Three steps run exactly the command, in the state those bytes lead to. -/
def Obligations.EncodedCommandRunsEndToEnd : Prop :=
  ∀ (s : State) (i : Instr) (op : Byte) (args : List Byte) (rest : List Event), s.cfg.opcodeMap.Injective →
    frameKind i = .command → i.wf s.cfg.opcodeMap = true → encode s.cfg i = op :: args → args ≠ [] →
    s.mode = .command → s.inbox = .bytes [op] :: .modeLine .data :: .bytes args :: rest →
    (andThen (step s) fun u => andThen (step u) step) = exec i { s with
      inbox := rest, mode := .data, ramWrite := false
      commandCode := op, commandSize := args.length, commandIndex := args.length
      commandBuf := Vector.ofFn fun k => args.getD k.val s.commandBuf[k] }

/-- R102, R70: every byte of a COMMAND buffer is an opcode, whatever it is and wherever it stands. A buffer of one byte clears
the latch and takes the byte. A longer buffer does what the buffer without its last byte does, and then takes that byte, with
the latch cleared under `PER_OPCODE` only (D11): so each zero-argument opcode runs before the next byte, in order. After the
buffer the command in flight is that of its last byte, with no argument yet, and the latch is clear unless some byte was
`RAMWR`. -/
def Obligations.EachCommandBufferByteIsAnOpcode : Prop :=
  ∀ (s : State) (b : Byte) (rest : List Event), s.mode = .command →
    step { s with inbox := .bytes [b] :: rest } = opcodeTaken b false { s with inbox := rest } ∧
    (∀ buf : List Byte, buf ≠ [] →
      step { s with inbox := .bytes (buf ++ [b]) :: rest } =
        andThen (step { s with inbox := .bytes buf :: rest }) fun u =>
          opcodeTaken b (u.ramWrite && decide (s.cfg.latchClear = .perBuffer)) u) ∧
    ∀ (buf : List Byte) (t : State), step { s with inbox := .bytes (buf ++ [b]) :: rest } = .next t →
      t.commandCode = b ∧ t.commandSize = opArgCount s.cfg.opcodeMap b ∧ t.commandIndex = 0 ∧
      t.commandBuf = s.commandBuf ∧
      ((∀ x ∈ buf ++ [b], commandOf s.cfg.opcodeMap x ≠ some .ramwr) → t.ramWrite = false)

/-- R102: an opcode with arguments, alone in its COMMAND buffer, clears the latch, sets the command fields, and dispatches
nothing: no other field changes. -/
def Obligations.OpcodeWithArgumentsWaits : Prop :=
  ∀ (s : State) (op : Byte) (rest : List Event), s.mode = .command → s.inbox = .bytes [op] :: rest →
    0 < opArgCount s.cfg.opcodeMap op →
    step s = .next { s with
      inbox := rest, ramWrite := false
      commandCode := op, commandSize := opArgCount s.cfg.opcodeMap op, commandIndex := 0 }

/-- R102's corner cases, the two readings of the latch clear (D11): the buffer `RAMWR`, `NOP` leaves the latch set under
`PER_BUFFER` and clear under `PER_OPCODE`; `RAMWR`, `RAMWR` leaves it set under both. -/
def Obligations.LatchClearPoliciesDiffer : Prop :=
  ∀ (s : State) (rest : List Event), s.cfg.opcodeMap.Injective → s.mode = .command →
    (s.inbox = .bytes [s.cfg.opcodeMap.ramwr, s.cfg.opcodeMap.nop] :: rest →
      ∃ t, step s = .next t ∧ (t.ramWrite = true ↔ s.cfg.latchClear = .perBuffer)) ∧
    (s.inbox = .bytes [s.cfg.opcodeMap.ramwr, s.cfg.opcodeMap.ramwr] :: rest →
      ∃ t, step s = .next t ∧ t.ramWrite = true)

/-- R100 (the COMMAND case is the spec's choice D10): an empty buffer is a no-op in both modes. -/
def Obligations.EmptyBufferIsNoOp : Prop :=
  ∀ (s : State) (rest : List Event), s.inbox = .bytes [] :: rest → step s = .next { s with inbox := rest }

/-- R107: argument bytes are dropped with no state change when no command is in flight or the command has all its
arguments, however many they are. -/
def Obligations.SurplusArgumentsAreDropped : Prop :=
  ∀ (s : State) (buf : List Byte) (rest : List Event), s.mode = .data → s.ramWrite = false →
    s.commandSize ≤ s.commandIndex → s.inbox = .bytes buf :: rest → step s = .next { s with inbox := rest }

/-- R105, R106: argument bytes short of the last one are stored and counted, and nothing is dispatched: no other field
changes. -/
def Obligations.PartialArgumentsOnlyAccumulate : Prop :=
  ∀ (s : State) (buf : List Byte) (rest : List Event), s.mode = .data → s.ramWrite = false →
    s.commandIndex + buf.length < s.commandSize → s.commandSize ≤ 16 → s.inbox = .bytes buf :: rest →
    step s = .next { s with
      inbox := rest
      commandIndex := s.commandIndex + buf.length
      commandBuf := Vector.ofFn fun k =>
        if s.commandIndex ≤ k.val then buf.getD (k.val - s.commandIndex) s.commandBuf[k] else s.commandBuf[k] }

/-- R108 (which the spec marks as derived): a command's arguments may be split anywhere across two DATA buffers. -/
def Obligations.SplitArgumentBuffersAgree : Prop :=
  ∀ (s : State) (a b : List Byte) (rest : List Event), s.CommandOk → s.mode = .data → s.ramWrite = false →
    step { s with inbox := .bytes (a ++ b) :: rest } =
      andThen (step { s with inbox := .bytes a :: .bytes b :: rest }) step

/-- R72 with R83: a pixel frame continues across two DATA buffers when the first holds whole samples. -/
def Obligations.SplitPixelBuffersAgree : Prop :=
  ∀ (s : State) (a b : List Byte) (rest : List Event), s.mode = .data → s.ramWrite = true → a.length % 2 = 0 →
    step { s with inbox := .bytes (a ++ b) :: rest } =
      andThen (step { s with inbox := .bytes a :: .bytes b :: rest }) step

/-- R171 (D4): the last byte of an odd-length pixel buffer is dropped and is not kept for the next buffer. -/
def Obligations.OddTrailingByteIsDropped : Prop :=
  ∀ (s : State) (buf : List Byte) (b : Byte) (rest : List Event), s.mode = .data → s.ramWrite = true →
    buf.length % 2 = 0 →
    step { s with inbox := .bytes (buf ++ [b]) :: rest } = step { s with inbox := .bytes buf :: rest }

/-- R104, R37's row for a pixel buffer: it writes the two cursors, the framebuffer and the output history, and no other
field. -/
def Obligations.PixelBuffersWriteOnlyCursorAndOutputs : Prop :=
  ∀ s : State, s.PixelsNext → ∃ t, step s = .next t ∧
    t = { s with
      inbox := s.inbox.tail, activeColumn := t.activeColumn, activePage := t.activePage
      fb := t.fb, outputs := t.outputs }

/-! ### The lines -/

/-- R109: `ModeLine(m)` writes the mode and nothing else. -/
def Obligations.ModeLineWritesTheModeOnly : Prop :=
  ∀ (s : State) (m : Mode) (rest : List Event), s.inbox = .modeLine m :: rest →
    step s = .next { s with inbox := rest, mode := m }

/-- R110: `SelectAssert` zeroes `command_size` and `command_index` and writes nothing else. -/
def Obligations.SelectAssertDiscardsTheCommand : Prop :=
  ∀ (s : State) (rest : List Event), s.inbox = .selectAssert :: rest →
    step s = .next { s with inbox := rest, commandSize := 0, commandIndex := 0 }

/-- R111, R222: `SelectDeassert` and `ResetDeassert` change no field. -/
def Obligations.DeassertionsChangeNothing : Prop :=
  ∀ (s : State) (rest : List Event),
    (s.inbox = .selectDeassert :: rest → step s = .next { s with inbox := rest }) ∧
    (s.inbox = .resetDeassert :: rest → step s = .next { s with inbox := rest })

/-- R221: `ResetAssert` restores the full-panel window and cursor, clears the latch and discards the command; orientation,
mode, opcode, argument buffer, framebuffer and outputs stay (the exact effect is the spec's reading D13). -/
def Obligations.ResetAssertRestoresTheWindow : Prop :=
  ∀ (s : State) (rest : List Event), s.inbox = .resetAssert :: rest →
    step s = .next { s with
      inbox := rest
      columnStart := 0#16, columnEnd := u16 (s.cfg.width - 1), activeColumn := 0#16
      pageStart := 0#16, pageEnd := u16 (s.cfg.height - 1), activePage := 0#16
      ramWrite := false, commandSize := 0, commandIndex := 0 }

/-- R220, R34: the state after attach, for every panel; the values are the spec's choice D14. Reset is attach of the default
240 by 240 panel (log entry 8). -/
def Obligations.AttachValues : Prop :=
  (∀ c : Config, c.Wf →
    let s := State.attach c
    s.cfg = c ∧ s.mode = .command ∧ s.commandCode = 0#8 ∧ s.commandSize = 0 ∧ s.commandIndex = 0 ∧
    (∀ i : Fin 16, s.commandBuf[i] = 0#8) ∧ s.ramWrite = false ∧
    s.columnStart = 0#16 ∧ s.columnEnd.toNat = c.width - 1 ∧ s.activeColumn = 0#16 ∧
    s.pageStart = 0#16 ∧ s.pageEnd.toNat = c.height - 1 ∧ s.activePage = 0#16 ∧
    s.swap = false ∧ s.hmirror = false ∧ s.vmirror = false ∧ s.outputs = []) ∧
  State.reset = State.attach defaultConfig ∧ State.reset.columnEnd = 239#16 ∧ State.reset.pageEnd = 239#16 ∧
  radius State.reset.cfg = 120

/-! ### The whole machine -/

/-- R200: every event completes in every state with a next state, and there is no fault to stop with. -/
def Obligations.EveryEventCompletes : Prop := (∀ s : State, Completes (step s)) ∧ IsEmpty Fault

/-- No event changes a parameter: `W`, `H` and with them `radius` (R31), and the others of R8, which the model carries in its
state and no event writes (log entry 1). -/
def Obligations.StepKeepsTheParameters : Prop := ∀ s t : State, step s = .next t → t.cfg = s.cfg

/-- R22: only a `ModeLine` event writes the mode. -/
def Obligations.OnlyModeLineWritesTheMode : Prop :=
  ∀ s t : State, step s = .next t → (∀ m, s.inbox.head? ≠ some (.modeLine m)) → t.mode = s.mode

/-- R30: the orientation bits change only by a DATA buffer that brings the argument of a `MADCTL` in flight. -/
def Obligations.OnlyMadctlWritesTheOrientation : Prop :=
  ∀ s t : State, step s = .next t →
    (t.swap = s.swap ∧ t.hmirror = s.hmirror ∧ t.vmirror = s.vmirror) ∨
    (s.mode = .data ∧ s.ramWrite = false ∧ s.commandIndex < s.commandSize ∧
      commandOf s.cfg.opcodeMap s.commandCode = some .madctl ∧
      ∃ buf rest, s.inbox = .bytes buf :: rest ∧ s.commandSize ≤ s.commandIndex + buf.length)

/-- R28: the window changes only by a DATA buffer that brings the last argument of a `CASET` or `PASET` in flight, or by
`ResetAssert`. -/
def Obligations.OnlyWindowCommandsAndResetWriteTheWindow : Prop :=
  ∀ s t : State, step s = .next t →
    (t.columnStart = s.columnStart ∧ t.columnEnd = s.columnEnd ∧ t.pageStart = s.pageStart ∧ t.pageEnd = s.pageEnd) ∨
    (s.mode = .data ∧ s.ramWrite = false ∧ s.commandIndex < s.commandSize ∧
      (commandOf s.cfg.opcodeMap s.commandCode = some .caset ∨
        commandOf s.cfg.opcodeMap s.commandCode = some .paset) ∧
      ∃ buf rest, s.inbox = .bytes buf :: rest ∧ s.commandSize ≤ s.commandIndex + buf.length) ∨
    s.inbox.head? = some .resetAssert

/-- R27: the latch is set only by a COMMAND buffer that holds `RAMWR`. -/
def Obligations.OnlyRamwrSetsTheLatch : Prop :=
  ∀ s t : State, s.CommandOk → step s = .next t → s.ramWrite = false → t.ramWrite = true →
    s.mode = .command ∧ ∃ buf rest, s.inbox = .bytes buf :: rest ∧
      ∃ b ∈ buf, commandOf s.cfg.opcodeMap b = some .ramwr

/-- R27, R231: the latch, once set, is cleared only by a non-empty COMMAND buffer or by `ResetAssert`. -/
def Obligations.PixelModePersists : Prop :=
  ∀ s t : State, step s = .next t → s.ramWrite = true → ¬ s.OpcodesNext → s.inbox.head? ≠ some .resetAssert →
    t.ramWrite = true

/-- R184 (which the spec marks as derived): while the latch stays set the window and the orientation cannot change. -/
def Obligations.PixelFrameHasOneWindowAndOrientation : Prop :=
  ∀ s t : State, step s = .next t → s.ramWrite = true → t.ramWrite = true →
    t.columnStart = s.columnStart ∧ t.columnEnd = s.columnEnd ∧ t.pageStart = s.pageStart ∧ t.pageEnd = s.pageEnd ∧
    t.swap = s.swap ∧ t.hmirror = s.hmirror ∧ t.vmirror = s.vmirror

/-- R61, R36: the framebuffer is written only by a buffer of pixels; every other event leaves it and adds at most
diagnostics to the history. -/
def Obligations.FramebufferWrittenOnlyByPixels : Prop :=
  ∀ s t : State, step s = .next t → ¬ s.PixelsNext →
    t.fb = s.fb ∧ ∃ new, t.outputs = s.outputs ++ new ∧ ∀ o ∈ new, o.IsDiag

/-- R54, R57 (whose 4 bytes are the default `PIXEL_SIZE`): a buffer of pixels sends nothing but whole-pixel writes, each of
`PIXEL_SIZE` bytes at a multiple of it, and sends no diagnostic; at most one write a sample. -/
def Obligations.PixelBuffersSendWholePixels : Prop :=
  ∀ (s t : State) (buf : List Byte) (rest : List Event), s.mode = .data → s.ramWrite = true →
    s.inbox = .bytes buf :: rest → step s = .next t →
    ∃ new, t.outputs = s.outputs ++ new ∧ new.length ≤ buf.length / 2 ∧ ∀ o ∈ new, o.WholePixel s.cfg ∧ ¬ o.IsDiag

/-! ### Invariants -/

/-- Attach meets the three invariants on every panel (R32, R33, R51). -/
def Obligations.AttachMeetsTheInvariants : Prop :=
  ∀ c : Config, (State.attach c).CommandOk ∧ (State.attach c).CursorOk ∧ (State.attach c).FramebufferOk

/-- R32: every step keeps `0 <= command_index <= command_size <= 16`, with the size that of the opcode last read or 0. -/
def Obligations.StepKeepsTheCommandFieldsOk : Prop :=
  ∀ s t : State, s.CommandOk → step s = .next t → t.CommandOk

/-- R33: every step keeps the cursor inside a well-formed window and at the start of a degenerate one, axis by axis. -/
def Obligations.StepKeepsTheCursorInTheWindow : Prop :=
  ∀ s t : State, s.CursorOk → step s = .next t → t.CursorOk

/-- R51, R50: every step keeps the framebuffer in its canonical form, inside its own offsets, and equal to the replay of
the writes recorded so far. -/
def Obligations.StepKeepsTheFramebufferTheReplay : Prop :=
  ∀ s t : State, s.FramebufferOk → step s = .next t → t.FramebufferOk

/-! ### What is never read -/

/-- R61, R60, R202: the core never reads the framebuffer or the output history. Two states that differ in nothing else take
steps that differ in nothing else, and send the same outputs. -/
def Obligations.OutputsAreNeverRead : Prop :=
  ∀ s₁ s₂ t₁ t₂ : State, s₁.withoutOutputs = s₂.withoutOutputs → step s₁ = .next t₁ → step s₂ = .next t₂ →
    t₁.withoutOutputs = t₂.withoutOutputs ∧
    ∃ new, t₁.outputs = s₁.outputs ++ new ∧ t₂.outputs = s₂.outputs ++ new

/-- R26 (D24): argument entries not written for the command in flight are never read. Two states that differ only there take
steps that differ only there. -/
def Obligations.StaleArgumentsAreNeverRead : Prop :=
  ∀ s₁ s₂ t₁ t₂ : State, s₁.CommandOk → SameButStale s₁ s₂ → step s₁ = .next t₁ → step s₂ = .next t₂ →
    SameButStale t₁ t₂
end

