-- ==== Sys2Proof/Laws/Decode.lean ====
section
/-! SUPPORT. The small lemmas of the encoding: bytes of 16-bit values and samples, and the opcode map. -/

namespace Sys2Proof

/-! ### Bytes and 16-bit values -/

@[simp] theorem be16_hiByte_loByte (w : Word) : be16 (hiByte w) (loByte w) = w := by
  apply BitVec.eq_of_toNat_eq
  simp only [be16, hiByte, loByte, BitVec.toNat_add, BitVec.toNat_mul, BitVec.toNat_setWidth, BitVec.extractLsb'_toNat,
    show (256#16).toNat = 256 from rfl, Nat.shiftRight_eq_div_pow]
  have := w.isLt
  omega

@[simp] theorem hiByte_be16 (b0 b1 : Byte) : hiByte (be16 b0 b1) = b0 := by
  apply BitVec.eq_of_toNat_eq
  simp only [be16, hiByte, BitVec.toNat_add, BitVec.toNat_mul, BitVec.toNat_setWidth, BitVec.extractLsb'_toNat,
    show (256#16).toNat = 256 from rfl, Nat.shiftRight_eq_div_pow]
  have := b0.isLt
  have := b1.isLt
  omega

@[simp] theorem loByte_be16 (b0 b1 : Byte) : loByte (be16 b0 b1) = b1 := by
  apply BitVec.eq_of_toNat_eq
  simp only [be16, loByte, BitVec.toNat_add, BitVec.toNat_mul, BitVec.toNat_setWidth, BitVec.extractLsb'_toNat,
    show (256#16).toNat = 256 from rfl, Nat.shiftRight_eq_div_pow]
  have := b0.isLt
  have := b1.isLt
  omega

/-- A sample has two bytes, and they give it back (R83, R85). -/
theorem sampleBytes_eq (o : SampleOrder) (s : Word) : ∃ b0 b1, sampleBytes o s = [b0, b1] ∧ sampleOf o b0 b1 = s := by
  cases o
  · exact ⟨_, _, rfl, be16_hiByte_loByte s⟩
  · exact ⟨_, _, rfl, be16_hiByte_loByte s⟩

/-- Two bytes are those of the sample they form (R83, R85). -/
@[simp] theorem sampleBytes_sampleOf (o : SampleOrder) (b0 b1 : Byte) : sampleBytes o (sampleOf o b0 b1) = [b0, b1] := by
  cases o <;> simp [sampleBytes, sampleOf]

/-- The samples of two buffers one after the other, when the first holds whole samples (R83). -/
theorem samplesOf_append (o : SampleOrder) (a b : List Byte) (h : a.length % 2 = 0) :
    samplesOf o (a ++ b) = samplesOf o a ++ samplesOf o b := by
  induction a using samplesOf.induct with
  | case1 b0 b1 rest ih =>
    simp only [List.length_cons] at h
    simp only [List.cons_append, samplesOf, ih (by omega)]
  | case2 b0 => simp at h
  | case3 => rfl

/-- A buffer of `n` bytes holds `n / 2` samples (R83). -/
theorem samplesOf_length (o : SampleOrder) (a : List Byte) : (samplesOf o a).length = a.length / 2 := by
  induction a using samplesOf.induct with
  | case1 b0 b1 rest ih => simp only [samplesOf, List.length_cons, ih]; omega
  | case2 b0 => simp [samplesOf]
  | case3 => rfl

/-! ### The opcode map -/

theorem Command.mem_all (c : Command) : c ∈ Command.all := by cases c <;> decide

/-- A byte that names a command is the byte the map gives it (R76). -/
theorem byte_of_commandOf {m : OpcodeMap} {b : Byte} {c : Command} (h : commandOf m b = some c) : m.byte c = b := by
  simpa using List.find?_some h

/-- Under an injective map the byte the map gives a command names that command (R76). -/
theorem commandOf_byte {m : OpcodeMap} (h : m.Injective) (c : Command) : commandOf m (m.byte c) = some c := by
  cases hc : commandOf m (m.byte c) with
  | none =>
    rw [commandOf, List.find?_eq_none] at hc
    exact absurd (beq_self_eq_true _) (hc c (Command.mem_all c))
  | some d => rw [List.inj_on_of_nodup_map h (Command.mem_all d) (Command.mem_all c) (byte_of_commandOf hc)]

/-- A byte names no command exactly when it lies outside the map's image (R77). -/
theorem commandOf_eq_none {m : OpcodeMap} {b : Byte} : commandOf m b = none ↔ m.inImage b = false := by
  simp [commandOf, OpcodeMap.inImage, List.find?_eq_none, List.any_eq_false]

/-- A byte lies outside the image exactly when no command has it. -/
theorem OpcodeMap.inImage_eq_false {m : OpcodeMap} {b : Byte} : m.inImage b = false ↔ ∀ c, m.byte c ≠ b := by
  simp only [OpcodeMap.inImage, List.any_eq_false, beq_iff_eq]
  exact ⟨fun h c => h c (Command.mem_all c), fun h c _ => h c⟩

/-- The argument buffer holds the bytes it was filled from. -/
theorem argBuffer_getElem (l : List Byte) (i : Nat) (h : i < 16) : (argBuffer l)[i] = l.getD i 0 := by
  simp [argBuffer]

end Sys2Proof
end

