-- ==== Sys2Proof/Laws/Memory.lean ====
section
/-! SUPPORT. The laws of the framebuffer's memory: read after write, every other byte unchanged, and every operation keeps the
canonical form. -/

namespace Sys2Proof.Machine

/-! ### Reading after writing -/

/-- A byte reads back as it was stored. -/
@[simp] theorem Memory.read_write_same (m : Memory) (a : Nat) (b : Byte) : (m.write a b).read a = some b := by
  induction m with
  | nil => simp [Memory.write, Memory.read]
  | cons cell m ih =>
    obtain ⟨a', b'⟩ := cell
    by_cases h1 : a < a'
    · simp [Memory.write, Memory.read, h1]
    · by_cases h2 : a = a'
      · simp [Memory.write, Memory.read, h2]
      · simp [Memory.write, Memory.read, h1, h2, ih]

/-- Storing a byte changes no other byte. -/
theorem Memory.read_write_other (m : Memory) {a a' : Nat} (b : Byte) (h : a' ≠ a) :
    (m.write a b).read a' = m.read a' := by
  induction m with
  | nil => simp [Memory.write, Memory.read, h]
  | cons cell m ih =>
    obtain ⟨a1, b1⟩ := cell
    by_cases h1 : a < a1
    · simp [Memory.write, Memory.read, h1, h]
    · by_cases h2 : a = a1
      · subst h2; simp [Memory.write, Memory.read, h]
      · simp [Memory.write, Memory.read, h1, h2, ih]

/-- Storing consecutive bytes changes no byte outside them. -/
theorem Memory.read_writeBytes_outside (bs : List Byte) (m : Memory) (a x : Nat) (h : x < a ∨ a + bs.length ≤ x) :
    (m.writeBytes a bs).read x = m.read x := by
  induction bs generalizing m a with
  | nil => rfl
  | cons b bs ih =>
    simp only [List.length_cons] at h
    rw [Memory.writeBytes, ih _ _ (by omega), Memory.read_write_other _ _ (by omega)]

/-- Each of the consecutive bytes reads back as it was stored. -/
theorem Memory.read_writeBytes_inside (bs : List Byte) (m : Memory) (a i : Nat) (h : i < bs.length) :
    (m.writeBytes a bs).read (a + i) = some bs[i] := by
  induction bs generalizing m a i with
  | nil => simp at h
  | cons b bs ih =>
    cases i with
    | zero => rw [Memory.writeBytes, Memory.read_writeBytes_outside _ _ _ _ (by omega)]; simp
    | succ i =>
      have := ih (m.write a b) (a + 1) i (by simpa using h)
      rw [Memory.writeBytes, show a + (i + 1) = a + 1 + i by omega, this]; simp

/-! ### The canonical form -/

theorem Memory.risesFrom_mono {m : Memory} {n k : Nat} (hk : k ≤ n) (h : m.risesFrom n = true) :
    m.risesFrom k = true := by
  cases m with
  | nil => rfl
  | cons cell m => simp only [Memory.risesFrom, Bool.and_eq_true, decide_eq_true_eq] at h ⊢; exact ⟨by omega, h.2⟩

/-- Storing a byte at or above the bound keeps the offsets rising from it. -/
theorem Memory.write_risesFrom (m : Memory) (n a : Nat) (b : Byte) (hn : n ≤ a) (h : m.risesFrom n = true) :
    (m.write a b).risesFrom n = true := by
  induction m generalizing n with
  | nil => simp [Memory.write, Memory.risesFrom, hn]
  | cons cell m ih =>
    obtain ⟨a', b'⟩ := cell
    simp only [Memory.risesFrom, Bool.and_eq_true, decide_eq_true_eq] at h
    rw [Memory.write]
    split
    · simp only [Memory.risesFrom, Bool.and_eq_true, decide_eq_true_eq]; exact ⟨hn, by omega, h.2⟩
    · split
      · subst_vars; simpa [Memory.risesFrom, hn] using h.2
      · simp only [Memory.risesFrom, Bool.and_eq_true, decide_eq_true_eq]
        exact ⟨h.1, ih (a' + 1) (by omega) h.2⟩

/-- Storing a byte keeps the canonical form. -/
theorem Memory.write_wf {m : Memory} (a : Nat) (b : Byte) (h : m.wf = true) : (m.write a b).wf = true :=
  Memory.write_risesFrom m 0 a b (Nat.zero_le a) h

/-- Storing consecutive bytes keeps the canonical form. -/
theorem Memory.writeBytes_wf (bs : List Byte) {m : Memory} (a : Nat) (h : m.wf = true) : (m.writeBytes a bs).wf = true := by
  induction bs generalizing m a with
  | nil => exact h
  | cons b bs ih => exact ih (a + 1) (Memory.write_wf a b h)

/-! ### The sink -/

/-- Everything the sink can do with a write (R55): store it wholly inside the framebuffer, or nothing. -/
theorem sinkStore_cases (c : Config) (off : Int) (v : List Byte) (m : Memory) :
    (0 ≤ off ∧ off + v.length ≤ fbSize c ∧ sinkStore c off v m = m.writeBytes off.toNat v) ∨
    (¬(0 ≤ off ∧ off + v.length ≤ fbSize c) ∧ sinkStore c off v m = m) := by
  by_cases h : 0 ≤ off ∧ off + v.length ≤ fbSize c
  · exact .inl ⟨h.1, h.2, by simp [sinkStore, h]⟩
  · refine .inr ⟨h, ?_⟩
    rw [sinkStore, if_neg h]

/-- The sink keeps the canonical form. -/
theorem sinkStore_wf (c : Config) (off : Int) (v : List Byte) {m : Memory} (h : m.wf = true) :
    (sinkStore c off v m).wf = true := by
  obtain ⟨-, -, e⟩ | ⟨-, e⟩ := sinkStore_cases c off v m
  · rw [e]; exact Memory.writeBytes_wf v _ h
  · rw [e]; exact h

/-- A write changes no framebuffer byte outside its own. -/
theorem sinkStore_read_outside (c : Config) (off : Int) (v : List Byte) (m : Memory) (x : Nat)
    (h : (x : Int) < off ∨ off + v.length ≤ x) : (sinkStore c off v m).read x = m.read x := by
  obtain ⟨h0, -, e⟩ | ⟨-, e⟩ := sinkStore_cases c off v m
  · rw [e]; exact Memory.read_writeBytes_outside v m _ x (by omega)
  · rw [e]

/-- The replay of a longer history is one more output applied (R51). -/
theorem replay_snoc (c : Config) (outs : List Output) (o : Output) :
    replay c (outs ++ [o]) = applyOutput c (replay c outs) o := by
  simp [replay]

/-- The framebuffer at attach and at reset is in its canonical form. -/
theorem State.attach_fb_wf (c : Config) : (State.attach c).fb.wf = true := rfl

theorem State.reset_fb_wf : State.reset.fb.wf = true := rfl

end Sys2Proof.Machine
end

