-- ==== Sys2Proof/Laws/Operands.lean ====
section
/-! SUPPORT. What each operand computation answers: the stored 16-bit values, the page offset, the cursor's point, the
bytes of a pixel and the advance of one axis. -/

namespace Sys2Proof.Machine

/-- A value that fits 16 bits is stored as it is (R10). -/
theorem u16_toNat {v : Int} (h0 : 0 ≤ v) (h : v < 65536) : ((u16 v).toNat : Int) = v := by
  simp only [u16, BitVec.toNat_ofInt]
  omega

/-- Without vertical mirror the page value is the raw one (R132). -/
@[simp] theorem pageValue_false (v : Word) : pageValue false v = v := rfl

/-- Under vertical mirror the page value is the raw one less 32, modulo 65536 (R132, D5). -/
@[simp] theorem pageValue_true (v : Word) : pageValue true v = v - 32#16 := by
  apply BitVec.eq_of_toNat_eq
  simp only [pageValue, if_true, u16, pageOffset, BitVec.toNat_ofInt, BitVec.toNat_sub,
    show (32#16).toNat = 32 from rfl]
  have := v.isLt
  omega

/-- The two things an axis can do with its cursor (R178 to R180): reload and carry, or go up by one without wrapping. -/
theorem nextOnAxis_cases (cur first last : Word) :
    (last.toNat < cur.toNat + 1 ∧ nextOnAxis cur first last = (first, true)) ∨
    (cur.toNat + 1 ≤ last.toNat ∧ nextOnAxis cur first last = (cur + 1#16, false) ∧ (cur + 1#16).toNat = cur.toNat + 1) := by
  unfold nextOnAxis
  split
  · exact .inl ⟨by assumption, rfl⟩
  · refine .inr ⟨by omega, rfl, ?_⟩
    have := last.isLt
    rw [BitVec.toNat_add]
    simp only [show (1#16).toNat = 1 from rfl]
    omega

/-- The cursor's point when `swap` is clear: column feeds x, page feeds y (R172). -/
theorem State.cursorPoint_of_not_swap (s : State) (h : s.swap = false) :
    s.cursorPoint = (mirrored s.hmirror s.cfg.width s.activeColumn.toNat,
      mirrored s.vmirror s.cfg.height s.activePage.toNat) := by
  simp [State.cursorPoint, State.orient, h]

/-- The cursor's point when `swap` is set: page feeds x, column feeds y (R173). -/
theorem State.cursorPoint_of_swap (s : State) (h : s.swap = true) :
    s.cursorPoint = (mirrored s.hmirror s.cfg.width s.activePage.toNat,
      mirrored s.vmirror s.cfg.height s.activeColumn.toNat) := by
  simp [State.cursorPoint, State.orient, h]

/-- The mask as an inequality on ℤ (R176). -/
theorem inMask_iff (c : Config) (x y : Int) : inMask c (x, y) = true ↔
    (x - radius c) * (x - radius c) + (y - radius c) * (y - radius c) ≤ (radius c : Int) * radius c := by
  simp only [inMask, square]
  exact decide_eq_true_iff

/-- R230 on every panel with both dimensions below 65504: a page row from 0xFFE0 up is never written, under any orientation.
Log entry 16 says what may happen on a larger one. -/
theorem wrappedRow_masked (s : State) (c : Int) (p : Word) (hw : s.cfg.width < 65504) (hh : s.cfg.height < 65504)
    (hp : 65504 ≤ p.toNat) : inMask s.cfg (s.orient c p.toNat) = false := by
  rw [Bool.eq_false_iff]
  intro hm
  obtain ⟨x, y, hxy⟩ : ∃ x y, s.orient c p.toNat = (x, y) := ⟨_, _, rfl⟩
  rw [hxy, inMask_iff] at hm
  have hr : 2 * radius s.cfg ≤ s.cfg.width ∧ 2 * radius s.cfg ≤ s.cfg.height := by
    unfold radius
    omega
  have hx : 0 ≤ x ∧ x ≤ 2 * radius s.cfg := by
    constructor <;> nlinarith [mul_self_nonneg (x - radius s.cfg), mul_self_nonneg (y - radius s.cfg)]
  have hy : 0 ≤ y ∧ y ≤ 2 * radius s.cfg := by
    constructor <;> nlinarith [mul_self_nonneg (x - radius s.cfg), mul_self_nonneg (y - radius s.cfg)]
  cases hs : s.swap <;> cases hf : s.hmirror <;> cases hv : s.vmirror <;>
    simp only [State.orient, mirrored, hs, hf, hv, if_true, Bool.false_eq_true, if_false, Prod.mk.injEq] at hxy <;> omega

/-- Every pixel has `PIXEL_SIZE` bytes (R51, R54). -/
@[simp] theorem pixelBytes_length (c : Config) (off : Int) (v : Word) : (pixelBytes c off v).length = c.pixelSize := by
  simp [pixelBytes]

/-- Each byte of a pixel in its place. -/
@[simp] theorem pixelBytes_getElem (c : Config) (off : Int) (v : Word) (i : Nat) (h : i < (pixelBytes c off v).length) :
    (pixelBytes c off v)[i] = pixelByte c off v i := by
  simp [pixelBytes]

/-- Under a well-formed layout each channel stands at its own byte (R53). -/
theorem pixelByte_channels {c : Config} (h : c.pixelLayout.Wf c.pixelSize) (off : Int) (v : Word) :
    pixelByte c off v c.pixelLayout.r = (decode565 v).r ∧ pixelByte c off v c.pixelLayout.g = (decode565 v).g ∧
    pixelByte c off v c.pixelLayout.b = (decode565 v).b ∧ pixelByte c off v c.pixelLayout.a = (decode565 v).a := by
  have h1 := h.1
  simp only [List.nodup_cons, List.mem_cons, not_or, List.not_mem_nil, not_false_eq_true, and_true, List.nodup_nil] at h1
  obtain ⟨⟨rg, rb, ra⟩, ⟨gb, ga⟩, ba⟩ := h1
  simp [pixelByte, Ne.symm rg, Ne.symm rb, Ne.symm ra, Ne.symm gb, Ne.symm ga, Ne.symm ba]

end Sys2Proof.Machine
end

