-- ==== Sys2Proof/Laws/State.lean ====
section
/-! SUPPORT. What each named update leaves in each field of the state: one lemma per field per update, true by unfolding. -/

namespace Sys2Proof.Machine

variable (s : State)

/-! ### memWrite -/

@[simp] theorem State.memWrite_cfg (off : Int) (v : List Byte) : (s.memWrite off v).cfg = s.cfg := rfl
@[simp] theorem State.memWrite_mode (off : Int) (v : List Byte) : (s.memWrite off v).mode = s.mode := rfl
@[simp] theorem State.memWrite_commandCode (off : Int) (v : List Byte) : (s.memWrite off v).commandCode = s.commandCode := rfl
@[simp] theorem State.memWrite_commandSize (off : Int) (v : List Byte) : (s.memWrite off v).commandSize = s.commandSize := rfl
@[simp] theorem State.memWrite_commandIndex (off : Int) (v : List Byte) : (s.memWrite off v).commandIndex = s.commandIndex := rfl
@[simp] theorem State.memWrite_commandBuf (off : Int) (v : List Byte) : (s.memWrite off v).commandBuf = s.commandBuf := rfl
@[simp] theorem State.memWrite_ramWrite (off : Int) (v : List Byte) : (s.memWrite off v).ramWrite = s.ramWrite := rfl
@[simp] theorem State.memWrite_columnStart (off : Int) (v : List Byte) : (s.memWrite off v).columnStart = s.columnStart := rfl
@[simp] theorem State.memWrite_columnEnd (off : Int) (v : List Byte) : (s.memWrite off v).columnEnd = s.columnEnd := rfl
@[simp] theorem State.memWrite_pageStart (off : Int) (v : List Byte) : (s.memWrite off v).pageStart = s.pageStart := rfl
@[simp] theorem State.memWrite_pageEnd (off : Int) (v : List Byte) : (s.memWrite off v).pageEnd = s.pageEnd := rfl
@[simp] theorem State.memWrite_activeColumn (off : Int) (v : List Byte) : (s.memWrite off v).activeColumn = s.activeColumn := rfl
@[simp] theorem State.memWrite_activePage (off : Int) (v : List Byte) : (s.memWrite off v).activePage = s.activePage := rfl
@[simp] theorem State.memWrite_swap (off : Int) (v : List Byte) : (s.memWrite off v).swap = s.swap := rfl
@[simp] theorem State.memWrite_hmirror (off : Int) (v : List Byte) : (s.memWrite off v).hmirror = s.hmirror := rfl
@[simp] theorem State.memWrite_vmirror (off : Int) (v : List Byte) : (s.memWrite off v).vmirror = s.vmirror := rfl
@[simp] theorem State.memWrite_fb (off : Int) (v : List Byte) : (s.memWrite off v).fb = sinkStore s.cfg off v s.fb := rfl
@[simp] theorem State.memWrite_outputs (off : Int) (v : List Byte) : (s.memWrite off v).outputs = s.outputs ++ [.memWrite off v] := rfl
@[simp] theorem State.memWrite_inbox (off : Int) (v : List Byte) : (s.memWrite off v).inbox = s.inbox := rfl

/-! ### report -/

@[simp] theorem State.report_cfg (op : Byte) : (s.report op).cfg = s.cfg := rfl
@[simp] theorem State.report_mode (op : Byte) : (s.report op).mode = s.mode := rfl
@[simp] theorem State.report_commandCode (op : Byte) : (s.report op).commandCode = s.commandCode := rfl
@[simp] theorem State.report_commandSize (op : Byte) : (s.report op).commandSize = s.commandSize := rfl
@[simp] theorem State.report_commandIndex (op : Byte) : (s.report op).commandIndex = s.commandIndex := rfl
@[simp] theorem State.report_commandBuf (op : Byte) : (s.report op).commandBuf = s.commandBuf := rfl
@[simp] theorem State.report_ramWrite (op : Byte) : (s.report op).ramWrite = s.ramWrite := rfl
@[simp] theorem State.report_columnStart (op : Byte) : (s.report op).columnStart = s.columnStart := rfl
@[simp] theorem State.report_columnEnd (op : Byte) : (s.report op).columnEnd = s.columnEnd := rfl
@[simp] theorem State.report_pageStart (op : Byte) : (s.report op).pageStart = s.pageStart := rfl
@[simp] theorem State.report_pageEnd (op : Byte) : (s.report op).pageEnd = s.pageEnd := rfl
@[simp] theorem State.report_activeColumn (op : Byte) : (s.report op).activeColumn = s.activeColumn := rfl
@[simp] theorem State.report_activePage (op : Byte) : (s.report op).activePage = s.activePage := rfl
@[simp] theorem State.report_swap (op : Byte) : (s.report op).swap = s.swap := rfl
@[simp] theorem State.report_hmirror (op : Byte) : (s.report op).hmirror = s.hmirror := rfl
@[simp] theorem State.report_vmirror (op : Byte) : (s.report op).vmirror = s.vmirror := rfl
@[simp] theorem State.report_fb (op : Byte) : (s.report op).fb = s.fb := rfl
@[simp] theorem State.report_outputs (op : Byte) : (s.report op).outputs = s.outputs ++ [.diag op] := rfl
@[simp] theorem State.report_inbox (op : Byte) : (s.report op).inbox = s.inbox := rfl

/-! ### beginCommand -/

@[simp] theorem State.beginCommand_cfg (op : Byte) (n : Nat) : (s.beginCommand op n).cfg = s.cfg := rfl
@[simp] theorem State.beginCommand_mode (op : Byte) (n : Nat) : (s.beginCommand op n).mode = s.mode := rfl
@[simp] theorem State.beginCommand_commandCode (op : Byte) (n : Nat) : (s.beginCommand op n).commandCode = op := rfl
@[simp] theorem State.beginCommand_commandSize (op : Byte) (n : Nat) : (s.beginCommand op n).commandSize = n := rfl
@[simp] theorem State.beginCommand_commandIndex (op : Byte) (n : Nat) : (s.beginCommand op n).commandIndex = 0 := rfl
@[simp] theorem State.beginCommand_commandBuf (op : Byte) (n : Nat) : (s.beginCommand op n).commandBuf = s.commandBuf := rfl
@[simp] theorem State.beginCommand_ramWrite (op : Byte) (n : Nat) : (s.beginCommand op n).ramWrite = s.ramWrite := rfl
@[simp] theorem State.beginCommand_columnStart (op : Byte) (n : Nat) : (s.beginCommand op n).columnStart = s.columnStart := rfl
@[simp] theorem State.beginCommand_columnEnd (op : Byte) (n : Nat) : (s.beginCommand op n).columnEnd = s.columnEnd := rfl
@[simp] theorem State.beginCommand_pageStart (op : Byte) (n : Nat) : (s.beginCommand op n).pageStart = s.pageStart := rfl
@[simp] theorem State.beginCommand_pageEnd (op : Byte) (n : Nat) : (s.beginCommand op n).pageEnd = s.pageEnd := rfl
@[simp] theorem State.beginCommand_activeColumn (op : Byte) (n : Nat) : (s.beginCommand op n).activeColumn = s.activeColumn := rfl
@[simp] theorem State.beginCommand_activePage (op : Byte) (n : Nat) : (s.beginCommand op n).activePage = s.activePage := rfl
@[simp] theorem State.beginCommand_swap (op : Byte) (n : Nat) : (s.beginCommand op n).swap = s.swap := rfl
@[simp] theorem State.beginCommand_hmirror (op : Byte) (n : Nat) : (s.beginCommand op n).hmirror = s.hmirror := rfl
@[simp] theorem State.beginCommand_vmirror (op : Byte) (n : Nat) : (s.beginCommand op n).vmirror = s.vmirror := rfl
@[simp] theorem State.beginCommand_fb (op : Byte) (n : Nat) : (s.beginCommand op n).fb = s.fb := rfl
@[simp] theorem State.beginCommand_outputs (op : Byte) (n : Nat) : (s.beginCommand op n).outputs = s.outputs := rfl
@[simp] theorem State.beginCommand_inbox (op : Byte) (n : Nat) : (s.beginCommand op n).inbox = s.inbox := rfl

/-! ### discardCommand -/

@[simp] theorem State.discardCommand_cfg : (s.discardCommand).cfg = s.cfg := rfl
@[simp] theorem State.discardCommand_mode : (s.discardCommand).mode = s.mode := rfl
@[simp] theorem State.discardCommand_commandCode : (s.discardCommand).commandCode = s.commandCode := rfl
@[simp] theorem State.discardCommand_commandSize : (s.discardCommand).commandSize = 0 := rfl
@[simp] theorem State.discardCommand_commandIndex : (s.discardCommand).commandIndex = 0 := rfl
@[simp] theorem State.discardCommand_commandBuf : (s.discardCommand).commandBuf = s.commandBuf := rfl
@[simp] theorem State.discardCommand_ramWrite : (s.discardCommand).ramWrite = s.ramWrite := rfl
@[simp] theorem State.discardCommand_columnStart : (s.discardCommand).columnStart = s.columnStart := rfl
@[simp] theorem State.discardCommand_columnEnd : (s.discardCommand).columnEnd = s.columnEnd := rfl
@[simp] theorem State.discardCommand_pageStart : (s.discardCommand).pageStart = s.pageStart := rfl
@[simp] theorem State.discardCommand_pageEnd : (s.discardCommand).pageEnd = s.pageEnd := rfl
@[simp] theorem State.discardCommand_activeColumn : (s.discardCommand).activeColumn = s.activeColumn := rfl
@[simp] theorem State.discardCommand_activePage : (s.discardCommand).activePage = s.activePage := rfl
@[simp] theorem State.discardCommand_swap : (s.discardCommand).swap = s.swap := rfl
@[simp] theorem State.discardCommand_hmirror : (s.discardCommand).hmirror = s.hmirror := rfl
@[simp] theorem State.discardCommand_vmirror : (s.discardCommand).vmirror = s.vmirror := rfl
@[simp] theorem State.discardCommand_fb : (s.discardCommand).fb = s.fb := rfl
@[simp] theorem State.discardCommand_outputs : (s.discardCommand).outputs = s.outputs := rfl
@[simp] theorem State.discardCommand_inbox : (s.discardCommand).inbox = s.inbox := rfl

/-! ### pushArgument -/

@[simp] theorem State.pushArgument_cfg (b : Byte) : (s.pushArgument b).cfg = s.cfg := rfl
@[simp] theorem State.pushArgument_mode (b : Byte) : (s.pushArgument b).mode = s.mode := rfl
@[simp] theorem State.pushArgument_commandCode (b : Byte) : (s.pushArgument b).commandCode = s.commandCode := rfl
@[simp] theorem State.pushArgument_commandSize (b : Byte) : (s.pushArgument b).commandSize = s.commandSize := rfl
@[simp] theorem State.pushArgument_commandIndex (b : Byte) : (s.pushArgument b).commandIndex = s.commandIndex + 1 := rfl
@[simp] theorem State.pushArgument_commandBuf (b : Byte) : (s.pushArgument b).commandBuf = s.commandBuf.setIfInBounds s.commandIndex b := rfl
@[simp] theorem State.pushArgument_ramWrite (b : Byte) : (s.pushArgument b).ramWrite = s.ramWrite := rfl
@[simp] theorem State.pushArgument_columnStart (b : Byte) : (s.pushArgument b).columnStart = s.columnStart := rfl
@[simp] theorem State.pushArgument_columnEnd (b : Byte) : (s.pushArgument b).columnEnd = s.columnEnd := rfl
@[simp] theorem State.pushArgument_pageStart (b : Byte) : (s.pushArgument b).pageStart = s.pageStart := rfl
@[simp] theorem State.pushArgument_pageEnd (b : Byte) : (s.pushArgument b).pageEnd = s.pageEnd := rfl
@[simp] theorem State.pushArgument_activeColumn (b : Byte) : (s.pushArgument b).activeColumn = s.activeColumn := rfl
@[simp] theorem State.pushArgument_activePage (b : Byte) : (s.pushArgument b).activePage = s.activePage := rfl
@[simp] theorem State.pushArgument_swap (b : Byte) : (s.pushArgument b).swap = s.swap := rfl
@[simp] theorem State.pushArgument_hmirror (b : Byte) : (s.pushArgument b).hmirror = s.hmirror := rfl
@[simp] theorem State.pushArgument_vmirror (b : Byte) : (s.pushArgument b).vmirror = s.vmirror := rfl
@[simp] theorem State.pushArgument_fb (b : Byte) : (s.pushArgument b).fb = s.fb := rfl
@[simp] theorem State.pushArgument_outputs (b : Byte) : (s.pushArgument b).outputs = s.outputs := rfl
@[simp] theorem State.pushArgument_inbox (b : Byte) : (s.pushArgument b).inbox = s.inbox := rfl

/-! ### setColumnWindow -/

@[simp] theorem State.setColumnWindow_cfg (x y : Word) : (s.setColumnWindow x y).cfg = s.cfg := rfl
@[simp] theorem State.setColumnWindow_mode (x y : Word) : (s.setColumnWindow x y).mode = s.mode := rfl
@[simp] theorem State.setColumnWindow_commandCode (x y : Word) : (s.setColumnWindow x y).commandCode = s.commandCode := rfl
@[simp] theorem State.setColumnWindow_commandSize (x y : Word) : (s.setColumnWindow x y).commandSize = s.commandSize := rfl
@[simp] theorem State.setColumnWindow_commandIndex (x y : Word) : (s.setColumnWindow x y).commandIndex = s.commandIndex := rfl
@[simp] theorem State.setColumnWindow_commandBuf (x y : Word) : (s.setColumnWindow x y).commandBuf = s.commandBuf := rfl
@[simp] theorem State.setColumnWindow_ramWrite (x y : Word) : (s.setColumnWindow x y).ramWrite = s.ramWrite := rfl
@[simp] theorem State.setColumnWindow_columnStart (x y : Word) : (s.setColumnWindow x y).columnStart = x := rfl
@[simp] theorem State.setColumnWindow_columnEnd (x y : Word) : (s.setColumnWindow x y).columnEnd = y := rfl
@[simp] theorem State.setColumnWindow_pageStart (x y : Word) : (s.setColumnWindow x y).pageStart = s.pageStart := rfl
@[simp] theorem State.setColumnWindow_pageEnd (x y : Word) : (s.setColumnWindow x y).pageEnd = s.pageEnd := rfl
@[simp] theorem State.setColumnWindow_activeColumn (x y : Word) : (s.setColumnWindow x y).activeColumn = x := rfl
@[simp] theorem State.setColumnWindow_activePage (x y : Word) : (s.setColumnWindow x y).activePage = s.activePage := rfl
@[simp] theorem State.setColumnWindow_swap (x y : Word) : (s.setColumnWindow x y).swap = s.swap := rfl
@[simp] theorem State.setColumnWindow_hmirror (x y : Word) : (s.setColumnWindow x y).hmirror = s.hmirror := rfl
@[simp] theorem State.setColumnWindow_vmirror (x y : Word) : (s.setColumnWindow x y).vmirror = s.vmirror := rfl
@[simp] theorem State.setColumnWindow_fb (x y : Word) : (s.setColumnWindow x y).fb = s.fb := rfl
@[simp] theorem State.setColumnWindow_outputs (x y : Word) : (s.setColumnWindow x y).outputs = s.outputs := rfl
@[simp] theorem State.setColumnWindow_inbox (x y : Word) : (s.setColumnWindow x y).inbox = s.inbox := rfl

/-! ### setPageWindow -/

@[simp] theorem State.setPageWindow_cfg (x y : Word) : (s.setPageWindow x y).cfg = s.cfg := rfl
@[simp] theorem State.setPageWindow_mode (x y : Word) : (s.setPageWindow x y).mode = s.mode := rfl
@[simp] theorem State.setPageWindow_commandCode (x y : Word) : (s.setPageWindow x y).commandCode = s.commandCode := rfl
@[simp] theorem State.setPageWindow_commandSize (x y : Word) : (s.setPageWindow x y).commandSize = s.commandSize := rfl
@[simp] theorem State.setPageWindow_commandIndex (x y : Word) : (s.setPageWindow x y).commandIndex = s.commandIndex := rfl
@[simp] theorem State.setPageWindow_commandBuf (x y : Word) : (s.setPageWindow x y).commandBuf = s.commandBuf := rfl
@[simp] theorem State.setPageWindow_ramWrite (x y : Word) : (s.setPageWindow x y).ramWrite = s.ramWrite := rfl
@[simp] theorem State.setPageWindow_columnStart (x y : Word) : (s.setPageWindow x y).columnStart = s.columnStart := rfl
@[simp] theorem State.setPageWindow_columnEnd (x y : Word) : (s.setPageWindow x y).columnEnd = s.columnEnd := rfl
@[simp] theorem State.setPageWindow_pageStart (x y : Word) : (s.setPageWindow x y).pageStart = pageValue s.vmirror x := rfl
@[simp] theorem State.setPageWindow_pageEnd (x y : Word) : (s.setPageWindow x y).pageEnd = pageValue s.vmirror y := rfl
@[simp] theorem State.setPageWindow_activeColumn (x y : Word) : (s.setPageWindow x y).activeColumn = s.activeColumn := rfl
@[simp] theorem State.setPageWindow_activePage (x y : Word) : (s.setPageWindow x y).activePage = pageValue s.vmirror x := rfl
@[simp] theorem State.setPageWindow_swap (x y : Word) : (s.setPageWindow x y).swap = s.swap := rfl
@[simp] theorem State.setPageWindow_hmirror (x y : Word) : (s.setPageWindow x y).hmirror = s.hmirror := rfl
@[simp] theorem State.setPageWindow_vmirror (x y : Word) : (s.setPageWindow x y).vmirror = s.vmirror := rfl
@[simp] theorem State.setPageWindow_fb (x y : Word) : (s.setPageWindow x y).fb = s.fb := rfl
@[simp] theorem State.setPageWindow_outputs (x y : Word) : (s.setPageWindow x y).outputs = s.outputs := rfl
@[simp] theorem State.setPageWindow_inbox (x y : Word) : (s.setPageWindow x y).inbox = s.inbox := rfl

/-! ### setCursor -/

@[simp] theorem State.setCursor_cfg (c p : Word) : (s.setCursor c p).cfg = s.cfg := rfl
@[simp] theorem State.setCursor_mode (c p : Word) : (s.setCursor c p).mode = s.mode := rfl
@[simp] theorem State.setCursor_commandCode (c p : Word) : (s.setCursor c p).commandCode = s.commandCode := rfl
@[simp] theorem State.setCursor_commandSize (c p : Word) : (s.setCursor c p).commandSize = s.commandSize := rfl
@[simp] theorem State.setCursor_commandIndex (c p : Word) : (s.setCursor c p).commandIndex = s.commandIndex := rfl
@[simp] theorem State.setCursor_commandBuf (c p : Word) : (s.setCursor c p).commandBuf = s.commandBuf := rfl
@[simp] theorem State.setCursor_ramWrite (c p : Word) : (s.setCursor c p).ramWrite = s.ramWrite := rfl
@[simp] theorem State.setCursor_columnStart (c p : Word) : (s.setCursor c p).columnStart = s.columnStart := rfl
@[simp] theorem State.setCursor_columnEnd (c p : Word) : (s.setCursor c p).columnEnd = s.columnEnd := rfl
@[simp] theorem State.setCursor_pageStart (c p : Word) : (s.setCursor c p).pageStart = s.pageStart := rfl
@[simp] theorem State.setCursor_pageEnd (c p : Word) : (s.setCursor c p).pageEnd = s.pageEnd := rfl
@[simp] theorem State.setCursor_activeColumn (c p : Word) : (s.setCursor c p).activeColumn = c := rfl
@[simp] theorem State.setCursor_activePage (c p : Word) : (s.setCursor c p).activePage = p := rfl
@[simp] theorem State.setCursor_swap (c p : Word) : (s.setCursor c p).swap = s.swap := rfl
@[simp] theorem State.setCursor_hmirror (c p : Word) : (s.setCursor c p).hmirror = s.hmirror := rfl
@[simp] theorem State.setCursor_vmirror (c p : Word) : (s.setCursor c p).vmirror = s.vmirror := rfl
@[simp] theorem State.setCursor_fb (c p : Word) : (s.setCursor c p).fb = s.fb := rfl
@[simp] theorem State.setCursor_outputs (c p : Word) : (s.setCursor c p).outputs = s.outputs := rfl
@[simp] theorem State.setCursor_inbox (c p : Word) : (s.setCursor c p).inbox = s.inbox := rfl

/-! ### fullPanel -/

@[simp] theorem State.fullPanel_cfg : (s.fullPanel).cfg = s.cfg := rfl
@[simp] theorem State.fullPanel_mode : (s.fullPanel).mode = s.mode := rfl
@[simp] theorem State.fullPanel_commandCode : (s.fullPanel).commandCode = s.commandCode := rfl
@[simp] theorem State.fullPanel_commandSize : (s.fullPanel).commandSize = s.commandSize := rfl
@[simp] theorem State.fullPanel_commandIndex : (s.fullPanel).commandIndex = s.commandIndex := rfl
@[simp] theorem State.fullPanel_commandBuf : (s.fullPanel).commandBuf = s.commandBuf := rfl
@[simp] theorem State.fullPanel_ramWrite : (s.fullPanel).ramWrite = s.ramWrite := rfl
@[simp] theorem State.fullPanel_columnStart : (s.fullPanel).columnStart = 0#16 := rfl
@[simp] theorem State.fullPanel_columnEnd : (s.fullPanel).columnEnd = u16 (s.cfg.width - 1) := rfl
@[simp] theorem State.fullPanel_pageStart : (s.fullPanel).pageStart = 0#16 := rfl
@[simp] theorem State.fullPanel_pageEnd : (s.fullPanel).pageEnd = u16 (s.cfg.height - 1) := rfl
@[simp] theorem State.fullPanel_activeColumn : (s.fullPanel).activeColumn = 0#16 := rfl
@[simp] theorem State.fullPanel_activePage : (s.fullPanel).activePage = 0#16 := rfl
@[simp] theorem State.fullPanel_swap : (s.fullPanel).swap = s.swap := rfl
@[simp] theorem State.fullPanel_hmirror : (s.fullPanel).hmirror = s.hmirror := rfl
@[simp] theorem State.fullPanel_vmirror : (s.fullPanel).vmirror = s.vmirror := rfl
@[simp] theorem State.fullPanel_fb : (s.fullPanel).fb = s.fb := rfl
@[simp] theorem State.fullPanel_outputs : (s.fullPanel).outputs = s.outputs := rfl
@[simp] theorem State.fullPanel_inbox : (s.fullPanel).inbox = s.inbox := rfl

/-! ### setLatch -/

@[simp] theorem State.setLatch_cfg : (s.setLatch).cfg = s.cfg := rfl
@[simp] theorem State.setLatch_mode : (s.setLatch).mode = s.mode := rfl
@[simp] theorem State.setLatch_commandCode : (s.setLatch).commandCode = s.commandCode := rfl
@[simp] theorem State.setLatch_commandSize : (s.setLatch).commandSize = s.commandSize := rfl
@[simp] theorem State.setLatch_commandIndex : (s.setLatch).commandIndex = s.commandIndex := rfl
@[simp] theorem State.setLatch_commandBuf : (s.setLatch).commandBuf = s.commandBuf := rfl
@[simp] theorem State.setLatch_ramWrite : (s.setLatch).ramWrite = true := rfl
@[simp] theorem State.setLatch_columnStart : (s.setLatch).columnStart = s.columnStart := rfl
@[simp] theorem State.setLatch_columnEnd : (s.setLatch).columnEnd = s.columnEnd := rfl
@[simp] theorem State.setLatch_pageStart : (s.setLatch).pageStart = s.pageStart := rfl
@[simp] theorem State.setLatch_pageEnd : (s.setLatch).pageEnd = s.pageEnd := rfl
@[simp] theorem State.setLatch_activeColumn : (s.setLatch).activeColumn = s.activeColumn := rfl
@[simp] theorem State.setLatch_activePage : (s.setLatch).activePage = s.activePage := rfl
@[simp] theorem State.setLatch_swap : (s.setLatch).swap = s.swap := rfl
@[simp] theorem State.setLatch_hmirror : (s.setLatch).hmirror = s.hmirror := rfl
@[simp] theorem State.setLatch_vmirror : (s.setLatch).vmirror = s.vmirror := rfl
@[simp] theorem State.setLatch_fb : (s.setLatch).fb = s.fb := rfl
@[simp] theorem State.setLatch_outputs : (s.setLatch).outputs = s.outputs := rfl
@[simp] theorem State.setLatch_inbox : (s.setLatch).inbox = s.inbox := rfl

/-! ### clearLatch -/

@[simp] theorem State.clearLatch_cfg : (s.clearLatch).cfg = s.cfg := rfl
@[simp] theorem State.clearLatch_mode : (s.clearLatch).mode = s.mode := rfl
@[simp] theorem State.clearLatch_commandCode : (s.clearLatch).commandCode = s.commandCode := rfl
@[simp] theorem State.clearLatch_commandSize : (s.clearLatch).commandSize = s.commandSize := rfl
@[simp] theorem State.clearLatch_commandIndex : (s.clearLatch).commandIndex = s.commandIndex := rfl
@[simp] theorem State.clearLatch_commandBuf : (s.clearLatch).commandBuf = s.commandBuf := rfl
@[simp] theorem State.clearLatch_ramWrite : (s.clearLatch).ramWrite = false := rfl
@[simp] theorem State.clearLatch_columnStart : (s.clearLatch).columnStart = s.columnStart := rfl
@[simp] theorem State.clearLatch_columnEnd : (s.clearLatch).columnEnd = s.columnEnd := rfl
@[simp] theorem State.clearLatch_pageStart : (s.clearLatch).pageStart = s.pageStart := rfl
@[simp] theorem State.clearLatch_pageEnd : (s.clearLatch).pageEnd = s.pageEnd := rfl
@[simp] theorem State.clearLatch_activeColumn : (s.clearLatch).activeColumn = s.activeColumn := rfl
@[simp] theorem State.clearLatch_activePage : (s.clearLatch).activePage = s.activePage := rfl
@[simp] theorem State.clearLatch_swap : (s.clearLatch).swap = s.swap := rfl
@[simp] theorem State.clearLatch_hmirror : (s.clearLatch).hmirror = s.hmirror := rfl
@[simp] theorem State.clearLatch_vmirror : (s.clearLatch).vmirror = s.vmirror := rfl
@[simp] theorem State.clearLatch_fb : (s.clearLatch).fb = s.fb := rfl
@[simp] theorem State.clearLatch_outputs : (s.clearLatch).outputs = s.outputs := rfl
@[simp] theorem State.clearLatch_inbox : (s.clearLatch).inbox = s.inbox := rfl

/-! ### setOrientation -/

@[simp] theorem State.setOrientation_cfg (x y z : Bool) : (s.setOrientation x y z).cfg = s.cfg := rfl
@[simp] theorem State.setOrientation_mode (x y z : Bool) : (s.setOrientation x y z).mode = s.mode := rfl
@[simp] theorem State.setOrientation_commandCode (x y z : Bool) : (s.setOrientation x y z).commandCode = s.commandCode := rfl
@[simp] theorem State.setOrientation_commandSize (x y z : Bool) : (s.setOrientation x y z).commandSize = s.commandSize := rfl
@[simp] theorem State.setOrientation_commandIndex (x y z : Bool) : (s.setOrientation x y z).commandIndex = s.commandIndex := rfl
@[simp] theorem State.setOrientation_commandBuf (x y z : Bool) : (s.setOrientation x y z).commandBuf = s.commandBuf := rfl
@[simp] theorem State.setOrientation_ramWrite (x y z : Bool) : (s.setOrientation x y z).ramWrite = s.ramWrite := rfl
@[simp] theorem State.setOrientation_columnStart (x y z : Bool) : (s.setOrientation x y z).columnStart = s.columnStart := rfl
@[simp] theorem State.setOrientation_columnEnd (x y z : Bool) : (s.setOrientation x y z).columnEnd = s.columnEnd := rfl
@[simp] theorem State.setOrientation_pageStart (x y z : Bool) : (s.setOrientation x y z).pageStart = s.pageStart := rfl
@[simp] theorem State.setOrientation_pageEnd (x y z : Bool) : (s.setOrientation x y z).pageEnd = s.pageEnd := rfl
@[simp] theorem State.setOrientation_activeColumn (x y z : Bool) : (s.setOrientation x y z).activeColumn = s.activeColumn := rfl
@[simp] theorem State.setOrientation_activePage (x y z : Bool) : (s.setOrientation x y z).activePage = s.activePage := rfl
@[simp] theorem State.setOrientation_swap (x y z : Bool) : (s.setOrientation x y z).swap = x := rfl
@[simp] theorem State.setOrientation_hmirror (x y z : Bool) : (s.setOrientation x y z).hmirror = y := rfl
@[simp] theorem State.setOrientation_vmirror (x y z : Bool) : (s.setOrientation x y z).vmirror = z := rfl
@[simp] theorem State.setOrientation_fb (x y z : Bool) : (s.setOrientation x y z).fb = s.fb := rfl
@[simp] theorem State.setOrientation_outputs (x y z : Bool) : (s.setOrientation x y z).outputs = s.outputs := rfl
@[simp] theorem State.setOrientation_inbox (x y z : Bool) : (s.setOrientation x y z).inbox = s.inbox := rfl

/-! ### setInbox -/

@[simp] theorem State.setInbox_cfg (l : List Event) : (s.setInbox l).cfg = s.cfg := rfl
@[simp] theorem State.setInbox_mode (l : List Event) : (s.setInbox l).mode = s.mode := rfl
@[simp] theorem State.setInbox_commandCode (l : List Event) : (s.setInbox l).commandCode = s.commandCode := rfl
@[simp] theorem State.setInbox_commandSize (l : List Event) : (s.setInbox l).commandSize = s.commandSize := rfl
@[simp] theorem State.setInbox_commandIndex (l : List Event) : (s.setInbox l).commandIndex = s.commandIndex := rfl
@[simp] theorem State.setInbox_commandBuf (l : List Event) : (s.setInbox l).commandBuf = s.commandBuf := rfl
@[simp] theorem State.setInbox_ramWrite (l : List Event) : (s.setInbox l).ramWrite = s.ramWrite := rfl
@[simp] theorem State.setInbox_columnStart (l : List Event) : (s.setInbox l).columnStart = s.columnStart := rfl
@[simp] theorem State.setInbox_columnEnd (l : List Event) : (s.setInbox l).columnEnd = s.columnEnd := rfl
@[simp] theorem State.setInbox_pageStart (l : List Event) : (s.setInbox l).pageStart = s.pageStart := rfl
@[simp] theorem State.setInbox_pageEnd (l : List Event) : (s.setInbox l).pageEnd = s.pageEnd := rfl
@[simp] theorem State.setInbox_activeColumn (l : List Event) : (s.setInbox l).activeColumn = s.activeColumn := rfl
@[simp] theorem State.setInbox_activePage (l : List Event) : (s.setInbox l).activePage = s.activePage := rfl
@[simp] theorem State.setInbox_swap (l : List Event) : (s.setInbox l).swap = s.swap := rfl
@[simp] theorem State.setInbox_hmirror (l : List Event) : (s.setInbox l).hmirror = s.hmirror := rfl
@[simp] theorem State.setInbox_vmirror (l : List Event) : (s.setInbox l).vmirror = s.vmirror := rfl
@[simp] theorem State.setInbox_fb (l : List Event) : (s.setInbox l).fb = s.fb := rfl
@[simp] theorem State.setInbox_outputs (l : List Event) : (s.setInbox l).outputs = s.outputs := rfl
@[simp] theorem State.setInbox_inbox (l : List Event) : (s.setInbox l).inbox = l := rfl

/-! ### setMode -/

@[simp] theorem State.setMode_cfg (m : Mode) : (s.setMode m).cfg = s.cfg := rfl
@[simp] theorem State.setMode_mode (m : Mode) : (s.setMode m).mode = m := rfl
@[simp] theorem State.setMode_commandCode (m : Mode) : (s.setMode m).commandCode = s.commandCode := rfl
@[simp] theorem State.setMode_commandSize (m : Mode) : (s.setMode m).commandSize = s.commandSize := rfl
@[simp] theorem State.setMode_commandIndex (m : Mode) : (s.setMode m).commandIndex = s.commandIndex := rfl
@[simp] theorem State.setMode_commandBuf (m : Mode) : (s.setMode m).commandBuf = s.commandBuf := rfl
@[simp] theorem State.setMode_ramWrite (m : Mode) : (s.setMode m).ramWrite = s.ramWrite := rfl
@[simp] theorem State.setMode_columnStart (m : Mode) : (s.setMode m).columnStart = s.columnStart := rfl
@[simp] theorem State.setMode_columnEnd (m : Mode) : (s.setMode m).columnEnd = s.columnEnd := rfl
@[simp] theorem State.setMode_pageStart (m : Mode) : (s.setMode m).pageStart = s.pageStart := rfl
@[simp] theorem State.setMode_pageEnd (m : Mode) : (s.setMode m).pageEnd = s.pageEnd := rfl
@[simp] theorem State.setMode_activeColumn (m : Mode) : (s.setMode m).activeColumn = s.activeColumn := rfl
@[simp] theorem State.setMode_activePage (m : Mode) : (s.setMode m).activePage = s.activePage := rfl
@[simp] theorem State.setMode_swap (m : Mode) : (s.setMode m).swap = s.swap := rfl
@[simp] theorem State.setMode_hmirror (m : Mode) : (s.setMode m).hmirror = s.hmirror := rfl
@[simp] theorem State.setMode_vmirror (m : Mode) : (s.setMode m).vmirror = s.vmirror := rfl
@[simp] theorem State.setMode_fb (m : Mode) : (s.setMode m).fb = s.fb := rfl
@[simp] theorem State.setMode_outputs (m : Mode) : (s.setMode m).outputs = s.outputs := rfl
@[simp] theorem State.setMode_inbox (m : Mode) : (s.setMode m).inbox = s.inbox := rfl

/-! ### Updates built from the ones above -/

@[simp] theorem State.setOrientationFrom_eq (a : Byte) : s.setOrientationFrom a = s.setOrientation (a.getLsb s.cfg.madctlBits.swap)
    (a.getLsb s.cfg.madctlBits.hmirror) (a.getLsb s.cfg.madctlBits.vmirror) := rfl
@[simp] theorem State.takeOpcode_cfg (b : Byte) : (s.takeOpcode b).cfg = s.cfg := by unfold State.takeOpcode; split <;> rfl
@[simp] theorem State.takeOpcode_mode (b : Byte) : (s.takeOpcode b).mode = s.mode := by unfold State.takeOpcode; split <;> rfl
@[simp] theorem State.takeOpcode_commandCode (b : Byte) : (s.takeOpcode b).commandCode = b := by unfold State.takeOpcode; split <;> rfl
@[simp] theorem State.takeOpcode_commandSize (b : Byte) : (s.takeOpcode b).commandSize = opArgCount s.cfg.opcodeMap b := by unfold State.takeOpcode; split <;> rfl
@[simp] theorem State.takeOpcode_commandIndex (b : Byte) : (s.takeOpcode b).commandIndex = 0 := by unfold State.takeOpcode; split <;> rfl
@[simp] theorem State.takeOpcode_commandBuf (b : Byte) : (s.takeOpcode b).commandBuf = s.commandBuf := by unfold State.takeOpcode; split <;> rfl
@[simp] theorem State.takeOpcode_columnStart (b : Byte) : (s.takeOpcode b).columnStart = s.columnStart := by unfold State.takeOpcode; split <;> rfl
@[simp] theorem State.takeOpcode_columnEnd (b : Byte) : (s.takeOpcode b).columnEnd = s.columnEnd := by unfold State.takeOpcode; split <;> rfl
@[simp] theorem State.takeOpcode_pageStart (b : Byte) : (s.takeOpcode b).pageStart = s.pageStart := by unfold State.takeOpcode; split <;> rfl
@[simp] theorem State.takeOpcode_pageEnd (b : Byte) : (s.takeOpcode b).pageEnd = s.pageEnd := by unfold State.takeOpcode; split <;> rfl
@[simp] theorem State.takeOpcode_activeColumn (b : Byte) : (s.takeOpcode b).activeColumn = s.activeColumn := by unfold State.takeOpcode; split <;> rfl
@[simp] theorem State.takeOpcode_activePage (b : Byte) : (s.takeOpcode b).activePage = s.activePage := by unfold State.takeOpcode; split <;> rfl
@[simp] theorem State.takeOpcode_swap (b : Byte) : (s.takeOpcode b).swap = s.swap := by unfold State.takeOpcode; split <;> rfl
@[simp] theorem State.takeOpcode_hmirror (b : Byte) : (s.takeOpcode b).hmirror = s.hmirror := by unfold State.takeOpcode; split <;> rfl
@[simp] theorem State.takeOpcode_vmirror (b : Byte) : (s.takeOpcode b).vmirror = s.vmirror := by unfold State.takeOpcode; split <;> rfl
@[simp] theorem State.takeOpcode_fb (b : Byte) : (s.takeOpcode b).fb = s.fb := by unfold State.takeOpcode; split <;> rfl
@[simp] theorem State.takeOpcode_outputs (b : Byte) : (s.takeOpcode b).outputs = s.outputs := by unfold State.takeOpcode; split <;> rfl
@[simp] theorem State.takeOpcode_inbox (b : Byte) : (s.takeOpcode b).inbox = s.inbox := by unfold State.takeOpcode; split <;> rfl
@[simp] theorem State.chipReset_cfg : s.chipReset.cfg = s.cfg := rfl
@[simp] theorem State.chipReset_mode : s.chipReset.mode = s.mode := rfl
@[simp] theorem State.chipReset_commandCode : s.chipReset.commandCode = s.commandCode := rfl
@[simp] theorem State.chipReset_commandSize : s.chipReset.commandSize = 0 := rfl
@[simp] theorem State.chipReset_commandIndex : s.chipReset.commandIndex = 0 := rfl
@[simp] theorem State.chipReset_commandBuf : s.chipReset.commandBuf = s.commandBuf := rfl
@[simp] theorem State.chipReset_ramWrite : s.chipReset.ramWrite = false := rfl
@[simp] theorem State.chipReset_columnStart : s.chipReset.columnStart = 0#16 := rfl
@[simp] theorem State.chipReset_columnEnd : s.chipReset.columnEnd = u16 (s.cfg.width - 1) := rfl
@[simp] theorem State.chipReset_pageStart : s.chipReset.pageStart = 0#16 := rfl
@[simp] theorem State.chipReset_pageEnd : s.chipReset.pageEnd = u16 (s.cfg.height - 1) := rfl
@[simp] theorem State.chipReset_activeColumn : s.chipReset.activeColumn = 0#16 := rfl
@[simp] theorem State.chipReset_activePage : s.chipReset.activePage = 0#16 := rfl
@[simp] theorem State.chipReset_swap : s.chipReset.swap = s.swap := rfl
@[simp] theorem State.chipReset_hmirror : s.chipReset.hmirror = s.hmirror := rfl
@[simp] theorem State.chipReset_vmirror : s.chipReset.vmirror = s.vmirror := rfl
@[simp] theorem State.chipReset_fb : s.chipReset.fb = s.fb := rfl
@[simp] theorem State.chipReset_outputs : s.chipReset.outputs = s.outputs := rfl
@[simp] theorem State.chipReset_inbox : s.chipReset.inbox = s.inbox := rfl
@[simp] theorem State.reportUnhandled_cfg : s.reportUnhandled.cfg = s.cfg := by unfold State.reportUnhandled; split <;> rfl
@[simp] theorem State.plot_cfg (v : Word) : (s.plot v).cfg = s.cfg := by unfold State.plot; split <;> rfl
@[simp] theorem State.advance_cfg : s.advance.cfg = s.cfg := by simp only [State.advance]; split <;> rfl
@[simp] theorem State.reportUnhandled_mode : s.reportUnhandled.mode = s.mode := by unfold State.reportUnhandled; split <;> rfl
@[simp] theorem State.plot_mode (v : Word) : (s.plot v).mode = s.mode := by unfold State.plot; split <;> rfl
@[simp] theorem State.advance_mode : s.advance.mode = s.mode := by simp only [State.advance]; split <;> rfl
@[simp] theorem State.reportUnhandled_commandCode : s.reportUnhandled.commandCode = s.commandCode := by unfold State.reportUnhandled; split <;> rfl
@[simp] theorem State.plot_commandCode (v : Word) : (s.plot v).commandCode = s.commandCode := by unfold State.plot; split <;> rfl
@[simp] theorem State.advance_commandCode : s.advance.commandCode = s.commandCode := by simp only [State.advance]; split <;> rfl
@[simp] theorem State.reportUnhandled_commandSize : s.reportUnhandled.commandSize = s.commandSize := by unfold State.reportUnhandled; split <;> rfl
@[simp] theorem State.plot_commandSize (v : Word) : (s.plot v).commandSize = s.commandSize := by unfold State.plot; split <;> rfl
@[simp] theorem State.advance_commandSize : s.advance.commandSize = s.commandSize := by simp only [State.advance]; split <;> rfl
@[simp] theorem State.reportUnhandled_commandIndex : s.reportUnhandled.commandIndex = s.commandIndex := by unfold State.reportUnhandled; split <;> rfl
@[simp] theorem State.plot_commandIndex (v : Word) : (s.plot v).commandIndex = s.commandIndex := by unfold State.plot; split <;> rfl
@[simp] theorem State.advance_commandIndex : s.advance.commandIndex = s.commandIndex := by simp only [State.advance]; split <;> rfl
@[simp] theorem State.reportUnhandled_commandBuf : s.reportUnhandled.commandBuf = s.commandBuf := by unfold State.reportUnhandled; split <;> rfl
@[simp] theorem State.plot_commandBuf (v : Word) : (s.plot v).commandBuf = s.commandBuf := by unfold State.plot; split <;> rfl
@[simp] theorem State.advance_commandBuf : s.advance.commandBuf = s.commandBuf := by simp only [State.advance]; split <;> rfl
@[simp] theorem State.reportUnhandled_ramWrite : s.reportUnhandled.ramWrite = s.ramWrite := by unfold State.reportUnhandled; split <;> rfl
@[simp] theorem State.plot_ramWrite (v : Word) : (s.plot v).ramWrite = s.ramWrite := by unfold State.plot; split <;> rfl
@[simp] theorem State.advance_ramWrite : s.advance.ramWrite = s.ramWrite := by simp only [State.advance]; split <;> rfl
@[simp] theorem State.reportUnhandled_columnStart : s.reportUnhandled.columnStart = s.columnStart := by unfold State.reportUnhandled; split <;> rfl
@[simp] theorem State.plot_columnStart (v : Word) : (s.plot v).columnStart = s.columnStart := by unfold State.plot; split <;> rfl
@[simp] theorem State.advance_columnStart : s.advance.columnStart = s.columnStart := by simp only [State.advance]; split <;> rfl
@[simp] theorem State.reportUnhandled_columnEnd : s.reportUnhandled.columnEnd = s.columnEnd := by unfold State.reportUnhandled; split <;> rfl
@[simp] theorem State.plot_columnEnd (v : Word) : (s.plot v).columnEnd = s.columnEnd := by unfold State.plot; split <;> rfl
@[simp] theorem State.advance_columnEnd : s.advance.columnEnd = s.columnEnd := by simp only [State.advance]; split <;> rfl
@[simp] theorem State.reportUnhandled_pageStart : s.reportUnhandled.pageStart = s.pageStart := by unfold State.reportUnhandled; split <;> rfl
@[simp] theorem State.plot_pageStart (v : Word) : (s.plot v).pageStart = s.pageStart := by unfold State.plot; split <;> rfl
@[simp] theorem State.advance_pageStart : s.advance.pageStart = s.pageStart := by simp only [State.advance]; split <;> rfl
@[simp] theorem State.reportUnhandled_pageEnd : s.reportUnhandled.pageEnd = s.pageEnd := by unfold State.reportUnhandled; split <;> rfl
@[simp] theorem State.plot_pageEnd (v : Word) : (s.plot v).pageEnd = s.pageEnd := by unfold State.plot; split <;> rfl
@[simp] theorem State.advance_pageEnd : s.advance.pageEnd = s.pageEnd := by simp only [State.advance]; split <;> rfl
@[simp] theorem State.reportUnhandled_activeColumn : s.reportUnhandled.activeColumn = s.activeColumn := by unfold State.reportUnhandled; split <;> rfl
@[simp] theorem State.plot_activeColumn (v : Word) : (s.plot v).activeColumn = s.activeColumn := by unfold State.plot; split <;> rfl
@[simp] theorem State.reportUnhandled_activePage : s.reportUnhandled.activePage = s.activePage := by unfold State.reportUnhandled; split <;> rfl
@[simp] theorem State.plot_activePage (v : Word) : (s.plot v).activePage = s.activePage := by unfold State.plot; split <;> rfl
@[simp] theorem State.reportUnhandled_swap : s.reportUnhandled.swap = s.swap := by unfold State.reportUnhandled; split <;> rfl
@[simp] theorem State.plot_swap (v : Word) : (s.plot v).swap = s.swap := by unfold State.plot; split <;> rfl
@[simp] theorem State.advance_swap : s.advance.swap = s.swap := by simp only [State.advance]; split <;> rfl
@[simp] theorem State.reportUnhandled_hmirror : s.reportUnhandled.hmirror = s.hmirror := by unfold State.reportUnhandled; split <;> rfl
@[simp] theorem State.plot_hmirror (v : Word) : (s.plot v).hmirror = s.hmirror := by unfold State.plot; split <;> rfl
@[simp] theorem State.advance_hmirror : s.advance.hmirror = s.hmirror := by simp only [State.advance]; split <;> rfl
@[simp] theorem State.reportUnhandled_vmirror : s.reportUnhandled.vmirror = s.vmirror := by unfold State.reportUnhandled; split <;> rfl
@[simp] theorem State.plot_vmirror (v : Word) : (s.plot v).vmirror = s.vmirror := by unfold State.plot; split <;> rfl
@[simp] theorem State.advance_vmirror : s.advance.vmirror = s.vmirror := by simp only [State.advance]; split <;> rfl
@[simp] theorem State.reportUnhandled_fb : s.reportUnhandled.fb = s.fb := by unfold State.reportUnhandled; split <;> rfl
@[simp] theorem State.advance_fb : s.advance.fb = s.fb := by simp only [State.advance]; split <;> rfl
@[simp] theorem State.advance_outputs : s.advance.outputs = s.outputs := by simp only [State.advance]; split <;> rfl
@[simp] theorem State.reportUnhandled_inbox : s.reportUnhandled.inbox = s.inbox := by unfold State.reportUnhandled; split <;> rfl
@[simp] theorem State.plot_inbox (v : Word) : (s.plot v).inbox = s.inbox := by unfold State.plot; split <;> rfl
@[simp] theorem State.advance_inbox : s.advance.inbox = s.inbox := by simp only [State.advance]; split <;> rfl

/-- What `DIAG_UNHANDLED` makes of the output history (R148 to R158). -/
theorem State.reportUnhandled_outputs :
    s.reportUnhandled.outputs = s.outputs ++ (if s.cfg.diagUnhandled then [.diag s.commandCode] else []) := by
  unfold State.reportUnhandled; split <;> simp

/-- What one sample adds to the output history (R177). -/
theorem State.plot_outputs (v : Word) :
    (s.plot v).outputs = s.outputs ++ (if inMask s.cfg s.cursorPoint then
      [.memWrite (pixelOffset s.cfg s.cursorPoint) (pixelBytes s.cfg (pixelOffset s.cfg s.cursorPoint) v)] else []) := by
  unfold State.plot; split <;> simp

/-- What one sample does to the framebuffer (R177, R55). -/
theorem State.plot_fb (v : Word) :
    (s.plot v).fb = if inMask s.cfg s.cursorPoint then
      sinkStore s.cfg (pixelOffset s.cfg s.cursorPoint) (pixelBytes s.cfg (pixelOffset s.cfg s.cursorPoint) v) s.fb else s.fb := by
  unfold State.plot; split <;> simp

/-- The cursor after `Advance()` when `swap` is clear (R178). -/
theorem State.advance_cursor_of_not_swap (h : s.swap = false) :
    s.advance = s.setCursor (nextOnAxis s.activeColumn s.columnStart s.columnEnd).1
      (if (nextOnAxis s.activeColumn s.columnStart s.columnEnd).2
        then (nextOnAxis s.activePage s.pageStart s.pageEnd).1 else s.activePage) := by
  simp [State.advance, h]

/-- The cursor after `Advance()` when `swap` is set (R179). -/
theorem State.advance_cursor_of_swap (h : s.swap = true) :
    s.advance = s.setCursor
      (if (nextOnAxis s.activePage s.pageStart s.pageEnd).2
        then (nextOnAxis s.activeColumn s.columnStart s.columnEnd).1 else s.activeColumn)
      (nextOnAxis s.activePage s.pageStart s.pageEnd).1 := by
  simp [State.advance, h]

end Sys2Proof.Machine
end

