-- ==== Sys2Proof/Laws/Ops.lean ====
section
/-! SUPPORT. What the shared operations can do, once each: sequencing and the dispatcher. -/

namespace Sys2Proof.Machine

/-! ### Sequencing -/

@[simp] theorem andThen_next (s : State) (f : State → Result) : andThen (.next s) f = f s := rfl

@[simp] theorem runEach_nil {α : Type} (f : α → State → Result) (s : State) : runEach f [] s = .next s := rfl

@[simp] theorem runEach_cons {α : Type} (f : α → State → Result) (a : α) (as : List α) (s : State) :
    runEach f (a :: as) s = andThen (f a s) (runEach f as) := rfl

/-- A sequence that reaches a next state went through a next state. -/
theorem andThen_eq_next {r : Result} {f : State → Result} {t : State} (h : andThen r f = .next t) :
    ∃ u, r = .next u ∧ f u = .next t := by
  cases r with
  | next u => exact ⟨u, rfl, h⟩
  | fault e => cases h
  | refused e => cases h

/-- Handling a list in two parts. -/
theorem runEach_append {α : Type} (f : α → State → Result) (as bs : List α) (s : State) :
    runEach f (as ++ bs) s = andThen (runEach f as s) (runEach f bs) := by
  induction as generalizing s with
  | nil => rfl
  | cons a as ih =>
    simp only [List.cons_append, runEach_cons]
    cases f a s with
    | next u => exact ih u
    | fault e => rfl
    | refused e => rfl

/-- If handling one input relates its two states and the relation is reflexive and transitive, so does handling a list. -/
theorem runEach_relates {α : Type} {f : α → State → Result} (R : State → State → Prop) (hrefl : ∀ s, R s s)
    (htrans : ∀ s u t, R s u → R u t → R s t) (hf : ∀ a s t, f a s = .next t → R s t) (as : List α) (s t : State)
    (h : runEach f as s = .next t) : R s t := by
  induction as generalizing s with
  | nil => cases h; exact hrefl _
  | cons a as ih =>
    obtain ⟨u, hu, ht⟩ := andThen_eq_next h
    exact htrans s u t (hf a s u hu) (ih u ht)

/-- If handling one input keeps a property, so does handling a list. -/
theorem runEach_keeps {α : Type} {f : α → State → Result} {P : State → Prop}
    (hf : ∀ a s t, P s → f a s = .next t → P t) (as : List α) (s t : State) (hs : P s)
    (h : runEach f as s = .next t) : P t := by
  induction as generalizing s with
  | nil => cases h; exact hs
  | cons a as ih =>
    obtain ⟨u, hu, ht⟩ := andThen_eq_next h
    exact ih u (hf a s u hs hu) ht

/-! ### The dispatcher -/

/-- A dispatch runs the instruction that the opcode and the argument buffer stand for (R130). -/
theorem dispatch_eq_exec {s : State} {i : Instr} (h : opcodeInstr s.cfg.opcodeMap s.commandCode s.commandBuf = i) :
    dispatch s = exec i s := by
  rw [← h]; rfl

/-- The argument count of a byte that names a command (R75). -/
theorem opArgCount_of_commandOf {m : OpcodeMap} {b : Byte} {c : Command} (h : commandOf m b = some c) :
    opArgCount m b = argCount c := by
  simp [opArgCount, h]

/-- Everything a dispatch can do (R130): nothing, a report, the latch (`RAMWR`), the orientation (`MADCTL`), or one axis of
the window (`CASET`, `PASET`). -/
theorem dispatch_cases (s : State) :
    dispatch s = .next s ∨ dispatch s = .next s.reportUnhandled ∨ dispatch s = .next (s.report s.commandCode) ∨
    (commandOf s.cfg.opcodeMap s.commandCode = some .ramwr ∧ dispatch s = .next s.setLatch) ∨
    (commandOf s.cfg.opcodeMap s.commandCode = some .madctl ∧
      ∃ x y z, dispatch s = .next (s.setOrientation x y z)) ∨
    ((commandOf s.cfg.opcodeMap s.commandCode = some .caset ∨ commandOf s.cfg.opcodeMap s.commandCode = some .paset) ∧
      ((∃ x y, dispatch s = .next (s.setColumnWindow x y)) ∨ (∃ x y, dispatch s = .next (s.setPageWindow x y)))) := by
  unfold dispatch opcodeInstr
  cases h : commandOf s.cfg.opcodeMap s.commandCode with
  | none => exact .inr (.inr (.inl rfl))
  | some c =>
    cases c
    case ramwr => exact .inr (.inr (.inr (.inl ⟨rfl, rfl⟩)))
    case madctl => exact .inr (.inr (.inr (.inr (.inl ⟨rfl, _, _, _, rfl⟩))))
    case caset =>
      refine .inr (.inr (.inr (.inr (.inr ⟨.inl rfl, ?_⟩))))
      simp only [commandInstr, exec, execCaset]
      split
      · exact .inr ⟨_, _, rfl⟩
      · exact .inl ⟨_, _, rfl⟩
    case paset =>
      refine .inr (.inr (.inr (.inr (.inr ⟨.inr rfl, ?_⟩))))
      simp only [commandInstr, exec, execPaset]
      split
      · exact .inl ⟨_, _, rfl⟩
      · exact .inr ⟨_, _, rfl⟩
    all_goals first | exact .inl rfl | exact .inr (.inl rfl)

end Sys2Proof.Machine
end

