-- ==== Sys2Proof/Laws/PerInstr.lean ====
section
/-! SUPPORT. The statements made one instruction at a time, over the instruction as syntax. -/

namespace Sys2Proof.Laws.EncodeLength

/-- How many bytes each row of the opcode table has (R71, R75: an opcode byte and its arguments; R105; R170: two bytes a
sample). -/
def frameBytes : Instr → Nat
  | .nop => 1 + argCount .nop
  | .swreset => 1 + argCount .swreset
  | .slpin => 1 + argCount .slpin
  | .slpout => 1 + argCount .slpout
  | .invoff => 1 + argCount .invoff
  | .invon => 1 + argCount .invon
  | .dispoff => 1 + argCount .dispoff
  | .dispon => 1 + argCount .dispon
  | .caset _ _ => 1 + argCount .caset
  | .paset _ _ => 1 + argCount .paset
  | .ramwr => 1 + argCount .ramwr
  | .madctl _ => 1 + argCount .madctl
  | .colmod _ => 1 + argCount .colmod
  | .frmctr1 _ _ _ => 1 + argCount .frmctr1
  | .frmctr2 _ _ _ => 1 + argCount .frmctr2
  | .frmctr3 _ _ _ _ _ _ => 1 + argCount .frmctr3
  | .invctr _ => 1 + argCount .invctr
  | .disset5 _ _ => 1 + argCount .disset5
  | .pwctr1 _ _ _ => 1 + argCount .pwctr1
  | .pwctr2 _ => 1 + argCount .pwctr2
  | .pwctr3 _ _ => 1 + argCount .pwctr3
  | .pwctr4 _ _ => 1 + argCount .pwctr4
  | .pwctr5 _ _ => 1 + argCount .pwctr5
  | .vmctr1 _ => 1 + argCount .vmctr1
  | .gmctrp1 _ => 1 + argCount .gmctrp1
  | .gmctrn1 _ => 1 + argCount .gmctrn1
  | .unknown _ => 1
  | .arg _ => 1
  | .pix _ => 2

/-- An instruction's encoding has exactly the bytes of its frame under every setting of the parameters. -/
def Statement (i : Instr) : Prop := ∀ cfg : Config, (encode cfg i).length = frameBytes i

theorem nop : Statement .nop := fun _ => rfl

theorem swreset : Statement .swreset := fun _ => rfl

theorem slpin : Statement .slpin := fun _ => rfl

theorem slpout : Statement .slpout := fun _ => rfl

theorem invoff : Statement .invoff := fun _ => rfl

theorem invon : Statement .invon := fun _ => rfl

theorem dispoff : Statement .dispoff := fun _ => rfl

theorem dispon : Statement .dispon := fun _ => rfl

theorem caset (first last : Word) : Statement (.caset first last) := fun _ => rfl

theorem paset (first last : Word) : Statement (.paset first last) := fun _ => rfl

theorem ramwr : Statement .ramwr := fun _ => rfl

theorem madctl (a : Byte) : Statement (.madctl a) := fun _ => rfl

theorem colmod (a0 : Byte) : Statement (.colmod a0) := fun _ => rfl

theorem frmctr1 (a0 a1 a2 : Byte) : Statement (.frmctr1 a0 a1 a2) := fun _ => rfl

theorem frmctr2 (a0 a1 a2 : Byte) : Statement (.frmctr2 a0 a1 a2) := fun _ => rfl

theorem frmctr3 (a0 a1 a2 a3 a4 a5 : Byte) : Statement (.frmctr3 a0 a1 a2 a3 a4 a5) := fun _ => rfl

theorem invctr (a0 : Byte) : Statement (.invctr a0) := fun _ => rfl

theorem disset5 (a0 a1 : Byte) : Statement (.disset5 a0 a1) := fun _ => rfl

theorem pwctr1 (a0 a1 a2 : Byte) : Statement (.pwctr1 a0 a1 a2) := fun _ => rfl

theorem pwctr2 (a0 : Byte) : Statement (.pwctr2 a0) := fun _ => rfl

theorem pwctr3 (a0 a1 : Byte) : Statement (.pwctr3 a0 a1) := fun _ => rfl

theorem pwctr4 (a0 a1 : Byte) : Statement (.pwctr4 a0 a1) := fun _ => rfl

theorem pwctr5 (a0 a1 : Byte) : Statement (.pwctr5 a0 a1) := fun _ => rfl

theorem vmctr1 (a0 : Byte) : Statement (.vmctr1 a0) := fun _ => rfl

theorem gmctrp1 (a : Vector Byte 16) : Statement (.gmctrp1 a) := by
  intro cfg
  simp [encode, frameBytes, argCount]

theorem gmctrn1 (a : Vector Byte 16) : Statement (.gmctrn1 a) := by
  intro cfg
  simp [encode, frameBytes, argCount]

theorem unknown (op : Byte) : Statement (.unknown op) := fun _ => rfl

theorem arg (b : Byte) : Statement (.arg b) := fun _ => rfl

theorem pix (v : Word) : Statement (.pix v) := by
  intro cfg
  cases h : cfg.sampleOrder <;> simp [encode, sampleBytes, frameBytes, h]

end Sys2Proof.Laws.EncodeLength
end

