-- ==== Sys2Proof/Laws/Protocol.lean ====
section
/-! SUPPORT. Everything a step can do, said once: the inversion of a dispatch, of an opcode byte, of an argument byte and of a
sample, and the two inductions over a step that every invariant and every frame of the whole machine goes through. -/

namespace Sys2Proof.Machine

/-! ### Inversions -/

/-- Every meaning answers a next state. -/
theorem exec_completes (i : Instr) (s : State) : ∃ t, exec i s = .next t := by
  cases i <;> exact ⟨_, rfl⟩

/-- What a dispatch that answers `t` did (R130). -/
theorem dispatch_inv {s t : State} (h : dispatch s = .next t) :
    t = s ∨ t = s.reportUnhandled ∨ t = s.report s.commandCode ∨
    (commandOf s.cfg.opcodeMap s.commandCode = some .ramwr ∧ t = s.setLatch) ∨
    (commandOf s.cfg.opcodeMap s.commandCode = some .madctl ∧ ∃ x y z, t = s.setOrientation x y z) ∨
    ((commandOf s.cfg.opcodeMap s.commandCode = some .caset ∨ commandOf s.cfg.opcodeMap s.commandCode = some .paset) ∧
      ((∃ x y, t = s.setColumnWindow x y) ∨ (∃ x y, t = s.setPageWindow x y))) := by
  have e : ∀ {u : State}, dispatch s = .next u → t = u := fun hu => by rw [h] at hu; cases hu; rfl
  rcases dispatch_cases s with d | d | d | ⟨c, d⟩ | ⟨c, x, y, z, d⟩ | ⟨c, ⟨x, y, d⟩ | ⟨x, y, d⟩⟩
  · exact .inl (e d)
  · exact .inr (.inl (e d))
  · exact .inr (.inr (.inl (e d)))
  · exact .inr (.inr (.inr (.inl ⟨c, e d⟩)))
  · exact .inr (.inr (.inr (.inr (.inl ⟨c, x, y, z, e d⟩))))
  · exact .inr (.inr (.inr (.inr (.inr ⟨c, .inl ⟨x, y, e d⟩⟩))))
  · exact .inr (.inr (.inr (.inr (.inr ⟨c, .inr ⟨x, y, e d⟩⟩))))

/-- A dispatch of an opcode without arguments changes nothing but the latch, by `RAMWR`, and the history. -/
theorem dispatch_inv_noArgs {s t : State} (h : dispatch s = .next t)
    (h0 : opArgCount s.cfg.opcodeMap s.commandCode = 0) :
    t = s ∨ t = s.reportUnhandled ∨ t = s.report s.commandCode ∨
    (commandOf s.cfg.opcodeMap s.commandCode = some .ramwr ∧ t = s.setLatch) := by
  rcases dispatch_inv h with e | e | e | e | ⟨c, -⟩ | ⟨c | c, -⟩
  · exact .inl e
  · exact .inr (.inl e)
  · exact .inr (.inr (.inl e))
  · exact .inr (.inr (.inr e))
  · rw [opArgCount_of_commandOf c] at h0; cases h0
  · rw [opArgCount_of_commandOf c] at h0; cases h0
  · rw [opArgCount_of_commandOf c] at h0; cases h0

/-- No dispatch writes the parameters, the mode, a command field, the framebuffer or the inbox (R130). -/
theorem dispatch_frame {s t : State} (h : dispatch s = .next t) :
    t.cfg = s.cfg ∧ t.mode = s.mode ∧ t.commandCode = s.commandCode ∧ t.commandSize = s.commandSize ∧
    t.commandIndex = s.commandIndex ∧ t.commandBuf = s.commandBuf ∧ t.fb = s.fb ∧ t.inbox = s.inbox := by
  rcases dispatch_inv h with rfl | rfl | rfl | ⟨-, rfl⟩ | ⟨-, x, y, z, rfl⟩ | ⟨-, ⟨x, y, rfl⟩ | ⟨x, y, rfl⟩⟩ <;> simp

/-- What an opcode byte did: it only began a command, or it began and dispatched one without arguments (R102). -/
theorem acceptOpcode_inv {b : Byte} {s t : State} (h : acceptOpcode b s = .next t) :
    (opArgCount s.cfg.opcodeMap b ≠ 0 ∧ t = s.takeOpcode b) ∨
    (opArgCount s.cfg.opcodeMap b = 0 ∧ dispatch (s.takeOpcode b) = .next t) := by
  by_cases h0 : opArgCount s.cfg.opcodeMap b = 0
  · exact .inr ⟨h0, by simpa [acceptOpcode, h0] using h⟩
  · refine .inl ⟨h0, ?_⟩
    have : (.next (s.takeOpcode b) : Result) = .next t := by simpa [acceptOpcode, h0] using h
    cases this; rfl

/-- What an argument byte did: it was dropped, it was stored, or it was stored and completed its command (R105, R107). -/
theorem acceptArgument_inv {b : Byte} {s t : State} (h : acceptArgument b s = .next t) :
    (s.commandSize ≤ s.commandIndex ∧ t = s) ∨
    (s.commandIndex + 1 < s.commandSize ∧ t = s.pushArgument b) ∨
    (s.commandIndex + 1 = s.commandSize ∧ dispatch (s.pushArgument b) = .next t) := by
  by_cases h1 : s.commandIndex < s.commandSize
  · by_cases h2 : s.commandIndex + 1 = s.commandSize
    · exact .inr (.inr ⟨h2, by simpa [acceptArgument, exec, execArg, h1, h2] using h⟩)
    · refine .inr (.inl ⟨by omega, ?_⟩)
      have : (.next (s.pushArgument b) : Result) = .next t := by
        simpa [acceptArgument, exec, execArg, h1, h2] using h
      cases this; rfl
  · refine .inl ⟨by omega, ?_⟩
    have : (.next s : Result) = .next t := by simpa [acceptArgument, exec, execArg, h1] using h
    cases this; rfl

/-- What a sample did: it plotted its pixel and advanced the cursor (R170). -/
theorem exec_pix_inv {v : Word} {s t : State} (h : exec (.pix v) s = .next t) : t = (s.plot v).advance := by
  cases h; rfl

/-! ### Inductions over a step -/

/-- A reflexive and transitive relation that every part of handling an event respects relates the state before the event to
the one after. -/
theorem handle_relates (R : State → State → Prop) (hrefl : ∀ s, R s s) (htrans : ∀ s u t, R s u → R u t → R s t)
    (hclear : ∀ s, s.mode = .command → R s s.clearLatch)
    (hopcode : ∀ b s t, acceptOpcode b s = .next t → R s t)
    (hargument : ∀ b s t, acceptArgument b s = .next t → R s t)
    (hpixel : ∀ v s t, exec (.pix v) s = .next t → R s t)
    (hmode : ∀ m s, R s (s.setMode m)) (hselect : ∀ s, R s s.discardCommand) (hreset : ∀ s, R s s.chipReset)
    (e : Event) (s t : State) (h : handle e s = .next t) : R s t := by
  cases e with
  | bytes buf =>
    cases buf with
    | nil => cases h; exact hrefl _
    | cons b bs =>
      simp only [handle, handleBytes] at h
      cases hm : s.mode <;> simp only [hm] at h
      · have := runEach_relates R hrefl htrans hopcode _ _ _ h
        split at this
        · exact htrans _ _ _ (hclear s hm) this
        · exact this
      · simp only [dataStream] at h
        split at h
        · exact runEach_relates R hrefl htrans hpixel _ _ _ h
        · exact runEach_relates R hrefl htrans hargument _ _ _ h
  | modeLine m => cases h; exact hmode _ _
  | selectAssert => cases h; exact hselect _
  | selectDeassert => cases h; exact hrefl _
  | resetAssert => cases h; exact hreset _
  | resetDeassert => cases h; exact hrefl _

/-- A reflexive and transitive relation that every part of a step respects relates the state before a step to the one
after. -/
theorem step_relates (R : State → State → Prop) (hrefl : ∀ s, R s s) (htrans : ∀ s u t, R s u → R u t → R s t)
    (hinbox : ∀ s l, R s (s.setInbox l))
    (hclear : ∀ s, s.mode = .command → R s s.clearLatch)
    (hopcode : ∀ b s t, acceptOpcode b s = .next t → R s t)
    (hargument : ∀ b s t, acceptArgument b s = .next t → R s t)
    (hpixel : ∀ v s t, exec (.pix v) s = .next t → R s t)
    (hmode : ∀ m s, R s (s.setMode m)) (hselect : ∀ s, R s s.discardCommand) (hreset : ∀ s, R s s.chipReset)
    (s t : State) (h : step s = .next t) : R s t := by
  unfold step deliverNext at h
  cases hi : s.inbox with
  | nil => rw [hi] at h; cases h; exact hrefl _
  | cons e rest =>
    rw [hi] at h
    exact htrans _ _ _ (hinbox s rest)
      (handle_relates R hrefl htrans hclear hopcode hargument hpixel hmode hselect hreset e _ t h)

/-- A property that every part of a step keeps holds after a step if it held before. -/
theorem step_keeps (P : State → Prop) (hinbox : ∀ s l, P s → P (s.setInbox l))
    (hclear : ∀ s, P s → P s.clearLatch)
    (hopcode : ∀ b s t, P s → acceptOpcode b s = .next t → P t)
    (hargument : ∀ b s t, P s → acceptArgument b s = .next t → P t)
    (hpixel : ∀ v s t, P s → exec (.pix v) s = .next t → P t)
    (hmode : ∀ m s, P s → P (s.setMode m)) (hselect : ∀ s, P s → P s.discardCommand)
    (hreset : ∀ s, P s → P s.chipReset) (s t : State) (hs : P s) (h : step s = .next t) : P t :=
  step_relates (fun s t => P s → P t) (fun _ h => h) (fun _ _ _ h1 h2 h => h2 (h1 h)) hinbox (fun s _ => hclear s)
    (fun b s t h hp => hopcode b s t hp h) (fun b s t h hp => hargument b s t hp h)
    (fun v s t h hp => hpixel v s t hp h) hmode hselect hreset s t h hs

/-- What a step does with an event (R6). -/
theorem step_event {s : State} {e : Event} {rest : List Event} (h : s.inbox = e :: rest) :
    step s = handle e (s.setInbox rest) := by
  simp [step, deliverNext, h]

/-- `MODE C` when the mode is COMMAND, and `MODE D` when it is DATA, changes nothing (R88's closing sentence, R109). -/
theorem step_modeLine_same {s : State} {rest : List Event} (h : s.inbox = .modeLine s.mode :: rest) :
    step s = .next (s.setInbox rest) :=
  step_event h

/-- What a step does with a buffer of bytes (R100, R101). -/
theorem step_bytes {s : State} {buf : List Byte} {rest : List Event} (h : s.inbox = .bytes buf :: rest) :
    step s = handleBytes buf (s.setInbox rest) := by
  simp [step, deliverNext, h, handle]

/-- What a step does with an argument buffer, empty or not (R103, R105). -/
theorem step_arguments {s : State} {buf : List Byte} {rest : List Event} (h : s.inbox = .bytes buf :: rest)
    (hm : s.mode = .data) (hw : s.ramWrite = false) : step s = argumentStream buf (s.setInbox rest) := by
  rw [step_bytes h]
  cases buf with
  | nil => rfl
  | cons b bs => simp [handleBytes, hm, dataStream, hw]

/-- What a step does with a pixel buffer, empty or not (R103, R104). -/
theorem step_pixels {s : State} {buf : List Byte} {rest : List Event} (h : s.inbox = .bytes buf :: rest)
    (hm : s.mode = .data) (hw : s.ramWrite = true) : step s = pixelStream buf (s.setInbox rest) := by
  rw [step_bytes h]
  cases buf with
  | nil => rfl
  | cons b bs => simp [handleBytes, hm, dataStream, hw]

/-- What a step does with a COMMAND buffer that is not empty (R102). -/
theorem step_opcodes {s : State} {b : Byte} {bs : List Byte} {rest : List Event}
    (h : s.inbox = .bytes (b :: bs) :: rest) (hm : s.mode = .command) :
    step s = commandStream (b :: bs) (s.setInbox rest) := by
  rw [step_bytes h]
  simp [handleBytes, hm]

/-- Two buffers put together do to an argument stream what they do one after the other (R108). -/
theorem argumentStream_append (a b : List Byte) (s : State) :
    argumentStream (a ++ b) s = andThen (argumentStream a s) (argumentStream b) :=
  runEach_append acceptArgument a b s

@[simp] theorem andThen_runEach_nil {α : Type} (f : α → State → Result) (r : Result) : andThen r (runEach f []) = r := by
  cases r <;> rfl

/-- A command reads only the arguments it takes (R130). -/
theorem commandInstr_congr (c : Command) (a b : Vector Byte 16)
    (h : ∀ (k : Nat) (hk : k < 16), k < argCount c → a[k] = b[k]) : commandInstr c a = commandInstr c b := by
  cases c
  case gmctrp1 => exact congrArg Instr.gmctrp1 (Vector.ext fun k hk => h k hk hk)
  case gmctrn1 => exact congrArg Instr.gmctrn1 (Vector.ext fun k hk => h k hk hk)
  all_goals
    unfold commandInstr
    dsimp only
    try rw [h 0 (by decide) (by decide)]
    try rw [h 1 (by decide) (by decide)]
    try rw [h 2 (by decide) (by decide)]
    try rw [h 3 (by decide) (by decide)]
    try rw [h 4 (by decide) (by decide)]
    try rw [h 5 (by decide) (by decide)]

/-- The instruction an opcode byte stands for depends on no argument beyond its count (R26, R130). -/
theorem opcodeInstr_congr (m : OpcodeMap) (op : Byte) (a b : Vector Byte 16)
    (h : ∀ (k : Nat) (hk : k < 16), k < opArgCount m op → a[k] = b[k]) : opcodeInstr m op a = opcodeInstr m op b := by
  unfold opcodeInstr
  unfold opArgCount at h
  cases hc : commandOf m op with
  | none => rfl
  | some c => rw [hc] at h; exact commandInstr_congr c a b h

end Sys2Proof.Machine
end

