-- ==== Sys2Proof/Machine/Expand.lean ====
section
/-! DEFINITION. The event sequences that the pseudo-instructions of spec/30_encoding.md R88 stand for: what a host delivers to
have one instruction run. Its other forms are the constructors of `Event`: `MODE C` and `MODE D` are `.modeLine .command` and
`.modeLine .data`, `BYTES b0 b1 ...` is `.bytes [b0, b1, ...]`, `SEL+` and `SEL-` are `.selectAssert` and `.selectDeassert`, `RST+`
and `RST-` are `.resetAssert` and `.resetDeassert`. -/

namespace Sys2Proof.Machine

/-- `CMD b0 b1 ...`: `MODE C`, which changes nothing when the mode is COMMAND already (the theorem `step_modeLine_same`), then one
buffer. -/
def commandEvents (buf : List Byte) : List Event := [.modeLine .command, .bytes buf]

/-- `DAT b0 b1 ...`: `MODE D`, then one buffer. -/
def dataEvents (buf : List Byte) : List Event := [.modeLine .data, .bytes buf]

/-- `PIX s0 s1 ...`: `MODE D`, then one buffer of the samples' bytes (high byte first under the default `SAMPLE_ORDER`). -/
def pixelEvents (o : SampleOrder) (samples : List Word) : List Event := dataEvents (samples.flatMap (sampleBytes o))

/-- `<MNEMONIC> a0, a1, ...`: `CMD` of the opcode, and `DAT` of the arguments if there are any; an argument byte and a sample
are a `DAT` of their bytes. -/
def instrEvents (c : Config) (i : Instr) : List Event :=
  match frameKind i, encode c i with
  | .command, [op] => commandEvents [op]
  | .command, op :: args => commandEvents [op] ++ dataEvents args
  | _, bytes => dataEvents bytes

end Sys2Proof.Machine
end

