-- ==== Sys2Proof/Tests/Slice0.lean ====
section
/-! SUPPORT. The model's own tests, each one step on a small state: what a well-formedness check refuses, the words of
spec/30_encoding.md decoded, the vectors of spec/95_test_vectors.md, and for every statement with hypotheses a concrete state
and operands that meet them together. -/

namespace Sys2Proof.Tests

open Sys2Proof.Machine

/-! ### Helpers -/

/-- One field of the state an answer holds. -/
def see {α : Type} (r : Result) (f : State → α) : Option α :=
  match r with
  | .next s => some (f s)
  | .fault _ => none
  | .refused _ => none

/-- The decoder's instruction and the bytes left over, under the default parameters. -/
def read (k : FrameKind) (bytes : List Byte) : Option (Instr × List Byte) :=
  match decode defaultConfig k bytes with
  | .ok r => some r
  | .error _ => none

/-- The state after attach with the cursor moved. -/
def cursorAt (c p : Word) : State := State.reset.setCursor c p

/-- The state after attach with other orientation flags. -/
def oriented (swap hmirror vmirror : Bool) : State := State.reset.setOrientation swap hmirror vmirror

/-- The state after attach of a panel of this size. -/
def panel (w h : Nat) : State := State.attach { defaultConfig with width := w, height := h }

/-- A state whose next event is this one. -/
def facing (s : State) (e : Event) : State := s.setInbox [e]

/-- A state whose next event is a COMMAND buffer. -/
def opcodes (s : State) (buf : List Byte) : State := facing (s.setMode .command) (.bytes buf)

/-- A state whose next event is a DATA buffer for the command in flight. -/
def arguments (s : State) (op : Byte) (size index : Nat) (buf : List Byte) : State :=
  facing { (s.setMode .data).clearLatch with commandCode := op, commandSize := size, commandIndex := index } (.bytes buf)

/-- A state whose next event is a buffer of pixels. -/
def pixels (s : State) (buf : List Byte) : State := facing (s.setMode .data).setLatch (.bytes buf)

/-- The two windows and their cursors. -/
def window (s : State) : (Nat × Nat × Nat) × (Nat × Nat × Nat) :=
  ((s.columnStart.toNat, s.columnEnd.toNat, s.activeColumn.toNat), (s.pageStart.toNat, s.pageEnd.toNat, s.activePage.toNat))

/-- The cursor. -/
def cursor (s : State) : Nat × Nat := (s.activeColumn.toNat, s.activePage.toNat)

/-! ### What the well-formedness checks refuse -/

theorem test_unknown_is_no_named_opcode : (Instr.unknown 0x2C).wf defaultOpcodeMap = false := by decide

theorem test_unknown_of_an_unlisted_byte : (Instr.unknown 0x99).wf defaultOpcodeMap = true := by decide

theorem test_map_that_repeats_a_byte : ¬ OpcodeMap.Injective { defaultOpcodeMap with swreset := 0x00 } := by decide

theorem test_two_flags_on_one_bit : ¬ MadctlBits.Wf { swap := 5, hmirror := 5, vmirror := 7 } := by decide

theorem test_flag_below_the_top_bits : ¬ MadctlBits.Wf { swap := 4, hmirror := 6, vmirror := 7 } := by decide

theorem test_two_channels_on_one_byte : ¬ PixelLayout.Wf { r := 0, g := 1, b := 1, a := 3 } 4 := by decide

theorem test_channel_outside_the_pixel : ¬ PixelLayout.Wf { r := 0, g := 1, b := 2, a := 3 } 3 := by decide

theorem test_panel_without_width : ¬ Config.Wf { defaultConfig with width := 0 } := fun h => absurd h.1 (by decide)

theorem test_panel_too_wide : ¬ Config.Wf { defaultConfig with width := 65536 } := fun h => absurd h.2.1 (by decide)

theorem test_panel_without_height : ¬ Config.Wf { defaultConfig with height := 0 } :=
  fun h => absurd h.2.2.1 (by decide)

theorem test_panel_too_high : ¬ Config.Wf { defaultConfig with height := 65536 } :=
  fun h => absurd h.2.2.2.1 (by decide)

theorem test_default_parameters_are_well_formed : Config.Wf defaultConfig := by
  refine ⟨?_, ?_, ?_, ?_, ?_, ?_, ?_⟩ <;> decide

/-! ### Decoding, from the byte values of R76 and the argument formats of R78, R80 and R83 -/

theorem test_decode_nop : read .command [0x00, 0x11] = some (.nop, [0x11]) := by decide
theorem test_decode_swreset : read .command [0x01] = some (.swreset, []) := by decide
theorem test_decode_slpin : read .command [0x10] = some (.slpin, []) := by decide
theorem test_decode_slpout : read .command [0x11] = some (.slpout, []) := by decide
theorem test_decode_invoff : read .command [0x20] = some (.invoff, []) := by decide
theorem test_decode_invon : read .command [0x21] = some (.invon, []) := by decide
theorem test_decode_dispoff : read .command [0x28] = some (.dispoff, []) := by decide
theorem test_decode_dispon : read .command [0x29] = some (.dispon, []) := by decide
theorem test_decode_caset : read .command [0x2A, 0x01, 0x02, 0x03, 0x04] = some (.caset 0x0102 0x0304, []) := by decide
theorem test_decode_paset : read .command [0x2B, 0x00, 0x20, 0x00, 0xEF] = some (.paset 32 239, []) := by decide
theorem test_decode_ramwr : read .command [0x2C] = some (.ramwr, []) := by decide
theorem test_decode_madctl : read .command [0x36, 0xA0] = some (.madctl 0xA0, []) := by decide
theorem test_decode_colmod : read .command [0x3A, 0x05] = some (.colmod 0x05, []) := by decide
theorem test_decode_frmctr1 : read .command [0xB1, 1, 2, 3] = some (.frmctr1 1 2 3, []) := by decide
theorem test_decode_frmctr2 : read .command [0xB2, 1, 2, 3] = some (.frmctr2 1 2 3, []) := by decide
theorem test_decode_frmctr3 : read .command [0xB3, 1, 2, 3, 4, 5, 6] = some (.frmctr3 1 2 3 4 5 6, []) := by decide
theorem test_decode_invctr : read .command [0xB4, 0x07] = some (.invctr 0x07, []) := by decide
theorem test_decode_disset5 : read .command [0xB6, 0x15, 0x02] = some (.disset5 0x15 0x02, []) := by decide
theorem test_decode_pwctr1 : read .command [0xC0, 0xA2, 2, 0x84] = some (.pwctr1 0xA2 2 0x84, []) := by decide
theorem test_decode_pwctr2 : read .command [0xC1, 0xC5] = some (.pwctr2 0xC5, []) := by decide
theorem test_decode_pwctr3 : read .command [0xC2, 0x0A, 0] = some (.pwctr3 0x0A 0, []) := by decide
theorem test_decode_pwctr4 : read .command [0xC3, 0x8A, 0x2A] = some (.pwctr4 0x8A 0x2A, []) := by decide
theorem test_decode_pwctr5 : read .command [0xC4, 0x8A, 0xEE] = some (.pwctr5 0x8A 0xEE, []) := by decide
theorem test_decode_vmctr1 : read .command [0xC5, 0x0E] = some (.vmctr1 0x0E, []) := by decide
theorem test_decode_gmctrp1 : read .command [0xE0, 1, 2, 3, 4, 5, 6, 7, 8, 9, 10, 11, 12, 13, 14, 15, 16, 17] =
    some (.gmctrp1 #v[1, 2, 3, 4, 5, 6, 7, 8, 9, 10, 11, 12, 13, 14, 15, 16], [17]) := by decide
theorem test_decode_gmctrn1 : read .command [0xE1, 1, 2, 3, 4, 5, 6, 7, 8, 9, 10, 11, 12, 13, 14, 15, 16] =
    some (.gmctrn1 #v[1, 2, 3, 4, 5, 6, 7, 8, 9, 10, 11, 12, 13, 14, 15, 16], []) := by decide
theorem test_decode_unknown : read .command [0x99] = some (.unknown 0x99, []) := by decide
theorem test_decode_arg : read .argument [0x2C] = some (.arg 0x2C, []) := by decide
theorem test_decode_pix : read .pixel [0xF8, 0x00] = some (.pix 0xF800, []) := by decide

/-- V5: with the opposite `SAMPLE_ORDER` the wire bytes `F8 00` form sample 0x00F8. -/
theorem test_decode_pix_low_first : sampleOf .lowFirst 0xF8 0x00 = 0x00F8 := by decide

/-- R106: too few arguments are no instruction yet. -/
theorem test_decode_needs_every_argument : read .command [0x2A, 0, 5, 0] = none := by decide

/-- R83: the odd last byte of a pixel buffer is no sample. -/
theorem test_decode_odd_byte : read .pixel [0x07] = none := by decide

theorem test_table_word_opcode : decodeTableWord 8 0x36 = some (.madctl 0) := by decide

theorem test_table_word_sample : decodeTableWord 16 0x1234 = some (.pix 0x1234) := by decide

/-! ### The commands (spec/95_test_vectors.md V1 to V3, V9) -/

/-- V9: the zero-argument commands report nothing and move nothing. -/
theorem test_nop : see (step (opcodes State.reset [0x00])) (fun s => (s.outputs, window s)) =
    some ([], (0, 239, 0), (0, 239, 0)) := by decide
theorem test_slpin : see (step (opcodes State.reset [0x10])) (·.outputs) = some [] := by decide
theorem test_slpout : see (step (opcodes State.reset [0x11])) (·.outputs) = some [] := by decide
theorem test_invoff : see (step (opcodes State.reset [0x20])) (·.outputs) = some [] := by decide
theorem test_invon : see (step (opcodes State.reset [0x21])) (·.outputs) = some [] := by decide
theorem test_dispoff : see (step (opcodes State.reset [0x28])) (·.outputs) = some [] := by decide
theorem test_dispon : see (step (opcodes State.reset [0x29])) (·.outputs) = some [] := by decide

/-- V9: `SWRESET` keeps the orientation. -/
theorem test_swreset : see (step (opcodes (oriented true false false) [0x01])) (fun s => (s.swap, s.outputs)) =
    some (true, []) := by decide

/-- R141: the third argument byte dispatches `PWCTR1`, which reports nothing; a fourth is dropped. -/
theorem test_pwctr1 : see (step (arguments State.reset 0xC0 3 0 [0xA2, 0x02, 0x84, 0x99]))
    (fun s => (s.commandIndex, s.outputs)) = some (3, []) := by decide

theorem test_colmod : see (step (arguments State.reset 0x3A 1 0 [0x05])) (·.outputs) = some [] := by decide
theorem test_vmctr1 : see (step (arguments State.reset 0xC5 1 0 [0x0E])) (·.outputs) = some [] := by decide

/-- L1.2: `RAMWR` dispatches at once. -/
theorem test_ramwr : see (step (opcodes State.reset [0x2C])) (fun s => (s.ramWrite, s.commandSize, s.commandIndex)) =
    some (true, 0, 0) := by decide

/-- R102: under `PER_BUFFER` a later opcode of the same buffer does not clear the latch. -/
theorem test_ramwr_then_nop : see (step (opcodes State.reset [0x2C, 0x00])) (·.ramWrite) = some true := by decide

/-- V2: the argument 0xA0 sets the vertical mirror and the swap. -/
theorem test_madctl : see (step (arguments State.reset 0x36 1 0 [0xA0]))
    (fun s => (s.vmirror, s.hmirror, s.swap, s.scanningDirection)) = some (true, false, true, 5) := by decide

/-- R145: `MADCTL 48` sets the horizontal mirror only. -/
theorem test_madctl_ignores_low_bits : see (step (arguments (oriented true false true) 0x36 1 0 [0x48]))
    (fun s => (s.vmirror, s.hmirror, s.swap)) = some (false, true, false) := by decide

/-- V1.2: columns 5 to 10. -/
theorem test_caset : see (step (arguments State.reset 0x2A 4 0 [0, 5, 0, 10])) window =
    some ((5, 10, 5), (0, 239, 0)) := by decide

/-- V3.8: with swap and vertical mirror `CASET` takes the page window, less 32. -/
theorem test_caset_swapped : see (exec (.caset 0x20 0x30) (oriented true false true)) window =
    some ((0, 239, 0), (0, 16, 0)) := by decide

/-- V3.5: values below 32 wrap modulo 65536 under vertical mirror. -/
theorem test_paset_wraps : see (exec (.paset 0 0x10) (oriented false false true)) window =
    some ((0, 239, 0), (0xFFE0, 0xFFF0, 0xFFE0)) := by decide

/-- V3.4: with swap `PASET` takes the column window, with no offset. -/
theorem test_paset_swapped : see (exec (.paset 0x20 0xEF) (oriented true false true)) window =
    some ((32, 239, 32), (0, 239, 0)) := by decide

/-- V9: the commands the dispatcher does not name report their opcode. -/
theorem test_pwctr2 : see (step (arguments State.reset 0xC1 1 0 [0xC5])) (·.outputs) = some [.diag 0xC1] := by decide
theorem test_pwctr3 : see (step (arguments State.reset 0xC2 2 0 [0x0A, 0])) (·.outputs) = some [.diag 0xC2] := by decide
theorem test_pwctr4 : see (step (arguments State.reset 0xC3 2 0 [0x8A, 0x2A])) (·.outputs) = some [.diag 0xC3] := by decide
theorem test_pwctr5 : see (step (arguments State.reset 0xC4 2 0 [0x8A, 0xEE])) (·.outputs) = some [.diag 0xC4] := by decide
theorem test_invctr : see (step (arguments State.reset 0xB4 1 0 [0x07])) (·.outputs) = some [.diag 0xB4] := by decide
theorem test_disset5 : see (step (arguments State.reset 0xB6 2 0 [0x15, 2])) (·.outputs) = some [.diag 0xB6] := by decide
theorem test_frmctr1 : see (step (arguments State.reset 0xB1 3 0 [1, 0x2C, 0x2D])) (·.outputs) =
    some [.diag 0xB1] := by decide
theorem test_frmctr2 : see (step (arguments State.reset 0xB2 3 0 [1, 0x2C, 0x2D])) (·.outputs) =
    some [.diag 0xB2] := by decide

/-- R156: five bytes do not dispatch; V9: the sixth reports. -/
theorem test_frmctr3_waits : see (step (arguments State.reset 0xB3 6 0 [1, 0x2C, 0x2D, 1, 0x2C])) (·.outputs) =
    some [] := by decide
theorem test_frmctr3 : see (step (arguments State.reset 0xB3 6 5 [0x2D])) (·.outputs) = some [.diag 0xB3] := by decide

/-- L1.1: the sixteenth byte reports, the seventeenth is dropped. -/
theorem test_gmctrp1 : see (step (arguments State.reset 0xE0 16 15 [1, 2])) (fun s => (s.outputs, s.commandIndex)) =
    some ([.diag 0xE0], 16) := by decide
theorem test_gmctrn1 : see (step (arguments State.reset 0xE1 16 15 [1])) (·.outputs) = some [.diag 0xE1] := by decide

/-- V9: `UNKNOWN` reports at the opcode, with `DIAG_UNHANDLED` set or clear. -/
theorem test_unknown : see (step (opcodes State.reset [0x99])) (fun s => (s.outputs, s.commandSize)) =
    some ([.diag 0x99], 0) := by decide
theorem test_unknown_always_reports :
    see (step (opcodes (State.attach { defaultConfig with diagUnhandled := false }) [0x04])) (·.outputs) =
    some [.diag 0x04] := by decide

/-- V1.1: three of four arguments are accumulated and no window is set. -/
theorem test_arg : see (step (arguments State.reset 0x2A 4 0 [0, 5, 0]))
    (fun s => (s.commandIndex, s.commandBuf[0], s.commandBuf[1], s.commandBuf[2], s.columnEnd)) =
    some (3, 0, 5, 0, 239) := by decide

/-- V1.9: with no command in flight argument bytes are dropped. -/
theorem test_arg_dropped : see (step (arguments State.reset 0 0 0 [0x12, 0x34])) (fun s => (s.commandIndex, s.commandBuf[0])) =
    some (0, 0) := by decide

/-! ### The pixel pipeline (V4 to V7) -/

/-- L1.6, L1.7: the centre pixel of the panel. -/
theorem test_pix : see (exec (.pix 0xF800) (cursorAt 120 120)) (·.outputs) =
    some [.memWrite 115680 [0xF8, 0x00, 0x00, 0xFF]] := by decide

/-- V4 with V6: swap and horizontal mirror put cursor (120, 1) at (238, 120). -/
theorem test_pix_swapped :
    see (exec (.pix 0x07E0) ((oriented true true false).setCursor 120 1)) (fun s => (s.outputs, s.fb)) =
    some ([.memWrite 116152 [0x00, 0xFC, 0x00, 0xFF]],
      [(116152, 0x00), (116153, 0xFC), (116154, 0x00), (116155, 0xFF)]) := by decide

/-- L1.7: the corner is masked, and the cursor advances all the same. -/
theorem test_pixel_buffer_masked : see (step (pixels State.reset [0, 0])) (fun s => (s.outputs, cursor s)) =
    some ([], 1, 0) := by decide

/-- V4.3: on a 320 by 240 panel the axis size is that of the result. -/
theorem test_orient : (panel 320 240).cfg.width = 320 ∧ ((panel 320 240).setOrientation true true false).orient 5 7 = (312, 5) := by
  decide

/-- Log entry 16: a page row from 0xFFE0 up that passes the mask, on a tall panel, on a wide one, and on a square one. -/
theorem test_wrapped_rows_on_large_panels :
    ((panel 240 65535).setOrientation false false true).orient 120 65504 = (120, 30) ∧
    inMask (panel 240 65535).cfg (120, 30) = true ∧
    ((panel 65535 240).setOrientation true true true).orient 119 65504 = (30, 120) ∧
    inMask (panel 65535 240).cfg (30, 120) = true ∧
    ((panel 65504 65504).setOrientation true false true).orient 32751 65504 = (65504, 32752) ∧
    inMask (panel 65504 65504).cfg (65504, 32752) = true := by decide

/-- V5: the sample 0x1234. -/
theorem test_codec : pixelBytes defaultConfig 0 0x1234 = [0x10, 0x44, 0xA0, 0xFF] := by decide

/-- R50, R52: a pixel of five bytes, of which `PIXEL_LAYOUT` leaves the first to no channel. -/
def widePixel : Config := { defaultConfig with pixelSize := 5, pixelLayout := { r := 1, g := 2, b := 3, a := 4 } }

theorem test_pixel_size : fbSize widePixel = 288000 ∧ pixelOffset widePixel (120, 120) = 144600 ∧
    (pixelBytes widePixel 144600 0x1234).tail = [0x10, 0x44, 0xA0, 0xFF] := by decide

/-- V6: the mask is inclusive. -/
theorem test_mask : inMask defaultConfig (0, 120) = true ∧ inMask defaultConfig (1, 1) = false ∧
    inMask defaultConfig (36, 36) = true ∧ inMask defaultConfig (35, 35) = false ∧
    inMask defaultConfig (-61, 5) = false := by decide

/-- V6: the point (120, 240) is handed to the sink, which ignores it. -/
theorem test_out_of_bounds : see (exec (.pix 0) (cursorAt 120 240)) (fun s => (s.outputs, s.fb)) =
    some ([.memWrite 230880 [0, 0, 0, 0xFF]], []) := by decide

/-- V7: both orientations, and the degenerate and the topmost windows. -/
theorem test_advance : cursor { cursorAt 2 0 with columnEnd := 2, pageEnd := 1 }.advance = (0, 1) ∧
    cursor { (oriented true false false).setCursor 0 1 with columnEnd := 2, pageEnd := 1 }.advance = (1, 0) ∧
    cursor { cursorAt 5 2 with columnStart := 5, columnEnd := 3, pageEnd := 2 }.advance = (5, 0) ∧
    cursor { cursorAt 65535 0 with columnStart := 65535, columnEnd := 65535, pageEnd := 1 }.advance = (65535, 1) := by
  decide

/-! ### The lines (V8) and reset -/

/-- V8.1, V8.3: the reset line restores the panel's own window and keeps the orientation. -/
theorem test_reset_line :
    see (step (facing ((panel 320 240).setOrientation true false true).setLatch .resetAssert))
      (fun s => (window s, s.ramWrite, s.swap, s.vmirror)) =
    some (((0, 319, 0), (0, 239, 0)), false, true, true) := by decide

/-- V1.10: a select assertion discards the arguments so far. -/
theorem test_select : see (step (facing (State.reset.beginCommand 0x2A 4) .selectAssert))
    (fun s => (s.commandCode, s.commandSize, s.commandIndex)) = some (0x2A, 0, 0) := by decide

/-- R220: the window after attach. -/
theorem test_attach : window (panel 320 240) = ((0, 319, 0), (0, 239, 0)) ∧ radius (panel 320 240).cfg = 120 := by decide

/-- R6: with no event to take nothing changes. -/
theorem test_idle : see (step State.reset) (fun s => decide (s = State.reset)) = some true := by decide

/-! ### The expansions of R88 -/

theorem test_expand_caset : instrEvents defaultConfig (.caset 0 0xEF) =
    [.modeLine .command, .bytes [0x2A], .modeLine .data, .bytes [0, 0, 0, 0xEF]] := by decide

/-- R88: `MODE C` in COMMAND mode changes nothing. -/
theorem test_mode_line_repeated : see (step (facing State.reset (.modeLine .command))) (fun s => decide (s = State.reset)) =
    some true := by decide

theorem test_expand_ramwr : instrEvents defaultConfig .ramwr = [.modeLine .command, .bytes [0x2C]] := by decide

theorem test_expand_pix : pixelEvents .highFirst [0xF800, 0x07E0] =
    [.modeLine .data, .bytes [0xF8, 0x00, 0x07, 0xE0]] := by decide

/-! ### Placing a word -/

theorem test_placed_opcode : see (step (State.reset.withFetchWord 8 0x99)) (·.outputs) = some [.diag 0x99] := by decide

theorem test_placed_command : see (step (State.reset.withFetchWord 8 0xE0)) (fun s => (s.outputs, s.commandIndex)) =
    some ([.diag 0xE0], 16) := by decide

theorem test_placed_sample : see (step ((cursorAt 120 120).withFetchWord 16 0xF800)) (·.outputs) =
    some [.memWrite 115680 [0xF8, 0x00, 0x00, 0xFF]] := by decide

/-! ### Witnesses: for each statement with hypotheses, operands and states that meet them together -/

theorem witness_EncodedInstructionsDecodeBack :
    defaultConfig.opcodeMap.Injective ∧ (Instr.unknown 0xFF).wf defaultConfig.opcodeMap = true ∧
    (Instr.caset 0xFFFF 0).wf defaultConfig.opcodeMap = true ∧ (Instr.arg 0).wf defaultConfig.opcodeMap = true ∧
    (Instr.pix 0xFFFF).wf defaultConfig.opcodeMap = true := by decide

theorem witness_DecodedBytesEncodeBack :
    decode defaultConfig .command [0x36, 0xA0, 0x55] = .ok (.madctl 0xA0, [0x55]) ∧
    decode defaultConfig .command [0x99] = .ok (.unknown 0x99, []) ∧
    decode defaultConfig .argument [0x99] = .ok (.arg 0x99, []) ∧
    decode defaultConfig .pixel [0x12, 0x34, 0x56] = .ok (.pix 0x1234, [0x56]) := ⟨rfl, rfl, rfl, rfl⟩

theorem witness_EveryOpcodeByteDecodesToOneCommand :
    defaultOpcodeMap.Injective ∧ defaultOpcodeMap.byte .nop = 0x00 ∧ defaultOpcodeMap.byte .gmctrn1 = 0xE1 ∧
    ∀ c : Command, defaultOpcodeMap.byte c ≠ 0xFF := ⟨by decide, rfl, rfl, fun c => by cases c <;> decide⟩

theorem witness_CommandTableCounts : defaultOpcodeMap.Injective ∧ ∀ c : Command, defaultOpcodeMap.byte c ≠ 0x02 :=
  ⟨by decide, fun c => by cases c <;> decide⟩

theorem witness_MadctlSetsTheOrientationOnly :
    State.reset.cfg.madctlBits = { swap := 5, hmirror := 6, vmirror := 7 } := by decide

theorem witness_PackedOrientationIsTopThreeBits :
    (oriented true true true).cfg.madctlBits = { swap := 5, hmirror := 6, vmirror := 7 } := by decide

theorem witness_CasetSetsOneWindow :
    (oriented false false true).swap = false ∧
    ((oriented true true false).swap = true ∧ (oriented true true false).vmirror = false) ∧
    ((oriented true false true).swap = true ∧ (oriented true false true).vmirror = true) := by decide

/-- The clauses at a boundary value: 31 wraps, 32 gives 0. -/
theorem witness_CasetSetsOneWindow_values :
    see (exec (.caset 31 32) (oriented false false true)) window = some ((31, 32, 31), (0, 239, 0)) ∧
    see (exec (.caset 31 32) (oriented true true false)) window = some ((0, 239, 0), (31, 32, 31)) ∧
    see (exec (.caset 31 32) (oriented true false true)) window = some ((0, 239, 0), (65535, 0, 65535)) := by decide

theorem witness_PasetSetsOneWindow :
    (oriented true false true).swap = true ∧
    ((oriented false true false).swap = false ∧ (oriented false true false).vmirror = false) ∧
    ((oriented false false true).swap = false ∧ (oriented false false true).vmirror = true) := by decide

theorem witness_PasetSetsOneWindow_values :
    see (exec (.paset 31 32) (oriented true false true)) window = some ((31, 32, 31), (0, 239, 0)) ∧
    see (exec (.paset 31 32) (oriented false true false)) window = some ((0, 239, 0), (31, 32, 31)) ∧
    see (exec (.paset 31 32) (oriented false false true)) window = some ((0, 239, 0), (65535, 0, 65535)) := by decide

theorem witness_WindowCommandsIdempotent :
    (∃ t, exec (.madctl 0xE0) State.reset = .next t) ∧ (∃ t, exec (.caset 9 3) State.reset = .next t) ∧
    (∃ t, exec (.paset 0 31) (oriented false false true) = .next t) := ⟨⟨_, rfl⟩, ⟨_, rfl⟩, ⟨_, rfl⟩⟩

theorem witness_UnhandledCommandsOnlyReport :
    State.reset.cfg.diagUnhandled = true ∧
    (State.attach { defaultConfig with diagUnhandled := false }).cfg.diagUnhandled = false := by decide

/-- A state with a command in flight. -/
def inFlight (size index : Nat) : State := { State.reset with commandSize := size, commandIndex := index }

theorem witness_ArgumentByteIsStoredOrDropped :
    ((inFlight 16 15).commandIndex < (inFlight 16 15).commandSize ∧ (inFlight 16 15).commandIndex < 16) ∧
    ((inFlight 17 16).commandIndex < (inFlight 17 16).commandSize ∧ 16 ≤ (inFlight 17 16).commandIndex) ∧
    (inFlight 16 16).commandSize ≤ (inFlight 16 16).commandIndex ∧
    (inFlight 0 0).commandSize ≤ (inFlight 0 0).commandIndex := by decide

/-- The hypotheses of the pixel statement at a cursor, with the coordinates they fix. -/
def PixHypotheses (s : State) (c p x y r : Int) : Prop :=
  c = s.activeColumn.toNat ∧ p = s.activePage.toNat ∧
  (s.swap = false → x = (if s.hmirror then (s.cfg.width - 1) - c else c) ∧
    y = (if s.vmirror then (s.cfg.height - 1) - p else p)) ∧
  (s.swap = true → x = (if s.hmirror then (s.cfg.width - 1) - p else p) ∧
    y = (if s.vmirror then (s.cfg.height - 1) - c else c)) ∧
  r = (min s.cfg.width s.cfg.height / 2 : Nat)

/-- On the circle and just outside it, with swap clear and with swap set. -/
theorem witness_PixWritesExactlyInsideTheCircle :
    (PixHypotheses (cursorAt 0 120) 0 120 0 120 120 ∧ ((0 : Int) - 120) ^ 2 + (120 - 120) ^ 2 ≤ 120 ^ 2) ∧
    (PixHypotheses (cursorAt 1 1) 1 1 1 1 120 ∧ (120 : Int) ^ 2 < (1 - 120) ^ 2 + (1 - 120) ^ 2) ∧
    (PixHypotheses ((oriented true true false).setCursor 120 0) 120 0 239 120 120 ∧
      ((239 : Int) - 120) ^ 2 + (120 - 120) ^ 2 ≤ 120 ^ 2) ∧
    (PixHypotheses ((oriented false true false).setCursor 300 5) 300 5 (-61) 5 120 ∧
      (120 : Int) ^ 2 < (-61 - 120) ^ 2 + (5 - 120) ^ 2) := by
  unfold PixHypotheses
  decide

theorem witness_PixAdvancesColumnFirst :
    (cursorAt 239 239).swap = false ∧
    ((cursorAt 239 239).activeColumn.toNat + 1 > (cursorAt 239 239).columnEnd.toNat ∧
      (cursorAt 239 239).activePage.toNat + 1 > (cursorAt 239 239).pageEnd.toNat) ∧
    ((cursorAt 239 238).activeColumn.toNat + 1 > (cursorAt 239 238).columnEnd.toNat ∧
      (cursorAt 239 238).activePage.toNat + 1 ≤ (cursorAt 239 238).pageEnd.toNat) ∧
    (cursorAt 238 239).activeColumn.toNat + 1 ≤ (cursorAt 238 239).columnEnd.toNat := by decide

/-- The state after attach with swap set and the cursor moved. -/
def swappedAt (c p : Word) : State := (oriented true false false).setCursor c p

theorem witness_PixAdvancesPageFirst :
    (swappedAt 239 239).swap = true ∧
    ((swappedAt 239 239).activePage.toNat + 1 > (swappedAt 239 239).pageEnd.toNat ∧
      (swappedAt 239 239).activeColumn.toNat + 1 > (swappedAt 239 239).columnEnd.toNat) ∧
    ((swappedAt 238 239).activePage.toNat + 1 > (swappedAt 238 239).pageEnd.toNat ∧
      (swappedAt 238 239).activeColumn.toNat + 1 ≤ (swappedAt 238 239).columnEnd.toNat) ∧
    (swappedAt 239 238).activePage.toNat + 1 ≤ (swappedAt 239 238).pageEnd.toNat := by decide

theorem witness_PixelCodecPlacesTheFields :
    PixelLayout.Wf { r := 3, g := 2, b := 1, a := 0 } 4 ∧ widePixel.pixelLayout.Wf widePixel.pixelSize ∧
    defaultConfig.pixelLayout.Wf defaultConfig.pixelSize ∧ defaultConfig.pixelSize = 4 ∧
    defaultConfig.pixelLayout = { r := 0, g := 1, b := 2, a := 3 } := by decide

theorem witness_PixLeavesOtherBytes :
    ((∃ t, exec (.pix 0xFFFF) (cursorAt 120 120) = .next t) ∧
      inMask (cursorAt 120 120).cfg (cursorAt 120 120).cursorPoint = true ∧
      (115680 : Int) = pixelOffset (cursorAt 120 120).cfg (cursorAt 120 120).cursorPoint ∧
      ((115679 : Nat) : Int) < 115680 ∧ (115680 : Int) + (cursorAt 120 120).cfg.pixelSize ≤ (115684 : Nat)) ∧
    (∃ t, exec (.pix 0xFFFF) State.reset = .next t) ∧ inMask State.reset.cfg State.reset.cursorPoint = false :=
  ⟨⟨⟨_, rfl⟩, by decide, by decide, by decide, by decide⟩, ⟨_, rfl⟩, by decide⟩

/-- The last pixel that fits, on a panel of one, and the first that does not, below the default panel. -/
theorem witness_PixStoresItsPixel :
    ((∃ t, exec (.pix 0x1234) (panel 1 1) = .next t) ∧ inMask (panel 1 1).cfg (panel 1 1).cursorPoint = true ∧
      pixelOffset (panel 1 1).cfg (panel 1 1).cursorPoint + (panel 1 1).cfg.pixelSize = fbSize (panel 1 1).cfg) ∧
    (∃ t, exec (.pix 0x1234) (cursorAt 120 240) = .next t) ∧
    inMask (cursorAt 120 240).cfg (cursorAt 120 240).cursorPoint = true ∧
    (fbSize (cursorAt 120 240).cfg : Int) <
      pixelOffset (cursorAt 120 240).cfg (cursorAt 120 240).cursorPoint + (cursorAt 120 240).cfg.pixelSize :=
  ⟨⟨⟨_, rfl⟩, by decide, by decide⟩, ⟨_, rfl⟩, by decide, by decide⟩

theorem witness_MaskedPointsLieInTheSquare :
    inMask defaultConfig (0, 120) = true ∧ inMask defaultConfig (240, 120) = true ∧
    inMask defaultConfig (120, 0) = true ∧ inMask defaultConfig (120, 240) = true := by decide

/-- The two points off the default panel, and on a panel of width 2 the height the inner clause asks for. -/
theorem witness_OnlyTwoMaskedPointsLieOffThePanel :
    1 ≤ defaultConfig.width ∧ 1 ≤ defaultConfig.height ∧
    (inMask defaultConfig (240, 120) = true ∧ (defaultConfig.width : Int) ≤ 240 ∧
      radius defaultConfig + 1 < defaultConfig.height) ∧
    (inMask defaultConfig (120, 240) = true ∧ (defaultConfig.height : Int) ≤ 240) ∧
    (inMask (panel 2 3).cfg (2, 1) = true ∧ ((panel 2 3).cfg.width : Int) ≤ 2 ∧
      radius (panel 2 3).cfg + 1 < (panel 2 3).cfg.height) := by decide

theorem witness_DeviceXChangesFastest :
    ((cursorAt 238 239).swap = false → (cursorAt 238 239).activeColumn.toNat + 1 ≤ (cursorAt 238 239).columnEnd.toNat) ∧
    ((cursorAt 238 239).swap = true → (cursorAt 238 239).activePage.toNat + 1 ≤ (cursorAt 238 239).pageEnd.toNat) ∧
    ((swappedAt 239 238).swap = false → (swappedAt 239 238).activeColumn.toNat + 1 ≤ (swappedAt 239 238).columnEnd.toNat) ∧
    ((swappedAt 239 238).swap = true → (swappedAt 239 238).activePage.toNat + 1 ≤ (swappedAt 239 238).pageEnd.toNat) := by
  decide

/-- The window of L1.8, columns 10 to 12 and pages 20 to 21, with the cursor somewhere in it. -/
def smallWindow (c p : Word) : State :=
  { cursorAt c p with columnStart := 10, columnEnd := 12, pageStart := 20, pageEnd := 21 }

theorem smallWindow_cursorOk : (smallWindow 12 20).CursorOk := ⟨⟨by decide, by decide⟩, ⟨by decide, by decide⟩⟩

theorem witness_FullTraversalReturnsTheCursor :
    let s := pixels (smallWindow 12 20) (List.replicate 12 0xFF)
    s.mode = .data ∧ s.ramWrite = true ∧ s.inbox = .bytes (List.replicate 12 0xFF) :: [] ∧
    s.columnStart.toNat ≤ s.columnEnd.toNat ∧ s.pageStart.toNat ≤ s.pageEnd.toNat ∧ s.CursorOk ∧
    (List.replicate 12 (0xFF : Byte)).length =
      2 * ((s.columnEnd.toNat - s.columnStart.toNat + 1) * (s.pageEnd.toNat - s.pageStart.toNat + 1)) :=
  ⟨by decide, by decide, by decide, by decide, by decide, ⟨⟨by decide, by decide⟩, ⟨by decide, by decide⟩⟩, by decide⟩

/-- L1.8: the pairs at both ends of the window, reached after 0 and after 5 samples. -/
theorem witness_TraversalVisitsEachCursorPairOnce :
    let s := smallWindow 10 20
    s.columnStart.toNat ≤ s.columnEnd.toNat ∧ s.pageStart.toNat ≤ s.pageEnd.toNat ∧
    s.activeColumn = s.columnStart ∧ s.activePage = s.pageStart ∧
    (s.columnStart.toNat ≤ (10 : Word).toNat ∧ (10 : Word).toNat ≤ s.columnEnd.toNat ∧
      s.pageStart.toNat ≤ (20 : Word).toNat ∧ (20 : Word).toNat ≤ s.pageEnd.toNat) ∧
    (s.columnStart.toNat ≤ (12 : Word).toNat ∧ (12 : Word).toNat ≤ s.columnEnd.toNat ∧
      s.pageStart.toNat ≤ (21 : Word).toNat ∧ (21 : Word).toNat ≤ s.pageEnd.toNat) ∧
    cursor (State.advance^[5] s) = (12, 21) := by decide

theorem witness_StepRunsTheDecodedInstruction :
    ((opcodes State.reset [0x99]).inbox = .bytes [0x99] :: [] ∧ (opcodes State.reset [0x99]).mode = .command ∧
      decode State.reset.cfg .command [0x99] = .ok (.unknown 0x99, [])) ∧
    ((pixels State.reset [0, 7]).inbox = .bytes [0, 7] :: [] ∧ (pixels State.reset [0, 7]).mode = .data ∧
      (pixels State.reset [0, 7]).ramWrite = true ∧ decode State.reset.cfg .pixel [0, 7] = .ok (.pix 7, [])) ∧
    ((arguments State.reset 0x36 1 0 [0x80]).inbox = .bytes [0x80] :: [] ∧
      (arguments State.reset 0x36 1 0 [0x80]).mode = .data ∧ (arguments State.reset 0x36 1 0 [0x80]).ramWrite = false ∧
      decode State.reset.cfg .argument [0x80] = .ok (.arg 0x80, [])) :=
  ⟨⟨rfl, rfl, rfl⟩, ⟨rfl, rfl, rfl, rfl⟩, rfl, rfl, rfl, rfl⟩

theorem witness_CompletedFrameRunsItsCommand :
    let s := arguments State.reset 0x2A 4 0 [0, 5, 0, 10]
    s.mode = .data ∧ s.ramWrite = false ∧ s.commandIndex = 0 ∧ s.commandSize = [(0 : Byte), 5, 0, 10].length ∧
    s.inbox = .bytes [0, 5, 0, 10] :: [] ∧
    decode s.cfg .command (s.commandCode :: [0, 5, 0, 10]) = .ok (.caset 5 10, []) :=
  ⟨rfl, rfl, rfl, rfl, rfl, rfl⟩

theorem witness_EncodedCommandRunsEndToEnd :
    let s := State.reset.setInbox [.bytes [0x36], .modeLine .data, .bytes [0xA0]]
    s.cfg.opcodeMap.Injective ∧ frameKind (.madctl 0xA0) = .command ∧ (Instr.madctl 0xA0).wf s.cfg.opcodeMap = true ∧
    encode s.cfg (.madctl 0xA0) = 0x36 :: [0xA0] ∧ s.mode = .command ∧
    s.inbox = .bytes [0x36] :: .modeLine .data :: .bytes [0xA0] :: [] :=
  ⟨by decide, rfl, rfl, rfl, rfl, rfl⟩

theorem witness_EachCommandBufferByteIsAnOpcode :
    State.reset.mode = .command ∧ [(0x2A : Byte), 0x99] ≠ [] ∧
    (∃ t, step { State.reset with inbox := .bytes ([0x2A, 0x99] ++ [0x36]) :: [] } = .next t) ∧
    ∀ x ∈ [(0x2A : Byte), 0x99] ++ [0x36], commandOf State.reset.cfg.opcodeMap x ≠ some .ramwr :=
  ⟨rfl, by decide, ⟨_, rfl⟩, by decide⟩

/-- R102: the opcodes of one buffer run in order, an unfinished command among them is abandoned. -/
theorem test_command_buffer_runs_in_order : see (step (opcodes State.reset [0x99, 0x2A, 0x04, 0x36]))
    (fun s => (s.outputs, s.commandCode, s.commandSize)) = some ([.diag 0x99, .diag 0x04], 0x36, 1) := by decide

theorem witness_OpcodeWithArgumentsWaits :
    (opcodes State.reset [0x36]).mode = .command ∧ (opcodes State.reset [0x36]).inbox = .bytes [0x36] :: [] ∧
    0 < opArgCount (opcodes State.reset [0x36]).cfg.opcodeMap 0x36 := by decide

/-- Under each of the two policies (V1.5, V1.6). -/
theorem witness_LatchClearPoliciesDiffer :
    let s := State.reset
    let p := State.attach { defaultConfig with latchClear := .perOpcode }
    s.cfg.opcodeMap.Injective ∧ p.cfg.opcodeMap.Injective ∧ s.mode = .command ∧ p.mode = .command ∧
    (opcodes s [0x2C, 0x00]).inbox = .bytes [s.cfg.opcodeMap.ramwr, s.cfg.opcodeMap.nop] :: [] ∧
    (opcodes p [0x2C, 0x2C]).inbox = .bytes [p.cfg.opcodeMap.ramwr, p.cfg.opcodeMap.ramwr] :: [] ∧
    see (step (opcodes s [0x2C, 0x00])) (·.ramWrite) = some true ∧
    see (step (opcodes p [0x2C, 0x00])) (·.ramWrite) = some false ∧
    see (step (opcodes p [0x2C, 0x2C])) (·.ramWrite) = some true := by decide

theorem witness_EmptyBufferIsNoOp :
    (opcodes State.reset.setLatch []).inbox = .bytes [] :: [] ∧ (pixels State.reset []).inbox = .bytes [] :: [] := by
  decide

/-- With no command in flight, and with one that has all its arguments. -/
theorem witness_SurplusArgumentsAreDropped :
    let a := arguments State.reset 0 0 0 [0x12, 0x34]
    let b := arguments State.reset 0xE0 16 16 [0x11]
    (a.mode = .data ∧ a.ramWrite = false ∧ a.commandSize ≤ a.commandIndex ∧ a.inbox = .bytes [0x12, 0x34] :: []) ∧
    (b.mode = .data ∧ b.ramWrite = false ∧ b.commandSize ≤ b.commandIndex ∧ b.inbox = .bytes [0x11] :: []) := by decide

/-- One byte short of the largest frame. -/
theorem witness_PartialArgumentsOnlyAccumulate :
    let s := arguments State.reset 0xE0 16 2 (List.replicate 13 7)
    s.mode = .data ∧ s.ramWrite = false ∧ s.commandIndex + (List.replicate 13 (7 : Byte)).length < s.commandSize ∧
    s.commandSize ≤ 16 ∧ s.inbox = .bytes (List.replicate 13 7) :: [] := by decide

/-- The command fields of an opcode with some of its arguments read. -/
theorem arguments_commandOk : (arguments State.reset 0x2A 4 1 []).CommandOk :=
  ⟨by decide, by decide, .inr (by decide)⟩

theorem witness_SplitArgumentBuffersAgree :
    let s := arguments State.reset 0x2A 4 1 []
    s.CommandOk ∧ s.mode = .data ∧ s.ramWrite = false := ⟨arguments_commandOk, rfl, rfl⟩

theorem witness_SplitPixelBuffersAgree :
    (pixels State.reset []).mode = .data ∧ (pixels State.reset []).ramWrite = true ∧
    [(1 : Byte), 2].length % 2 = 0 ∧ ([] : List Byte).length % 2 = 0 := by decide

theorem witness_OddTrailingByteIsDropped :
    (pixels State.reset [0xF8, 0, 7]).mode = .data ∧ (pixels State.reset [0xF8, 0, 7]).ramWrite = true ∧
    [(0xF8 : Byte), 0].length % 2 = 0 ∧ ([] : List Byte).length % 2 = 0 := by decide

theorem pixelsNext : (pixels State.reset [0]).PixelsNext ∧ (pixels State.reset [0, 0, 0, 0]).PixelsNext :=
  ⟨⟨rfl, rfl, 0, [], [], rfl⟩, rfl, rfl, 0, [0, 0, 0], [], rfl⟩

theorem witness_PixelBuffersWriteOnlyCursorAndOutputs : (pixels State.reset [0]).PixelsNext := pixelsNext.1

theorem witness_line_events :
    (facing State.reset (.modeLine .data)).inbox = .modeLine .data :: [] ∧
    (facing State.reset .selectAssert).inbox = .selectAssert :: [] ∧
    (facing State.reset .selectDeassert).inbox = .selectDeassert :: [] ∧
    (facing State.reset .resetAssert).inbox = .resetAssert :: [] ∧
    (facing State.reset .resetDeassert).inbox = .resetDeassert :: [] := by decide

/-- The parameters of the default panel, and of the smallest and the largest. -/
theorem witness_AttachValues :
    Config.Wf defaultConfig ∧ Config.Wf { defaultConfig with width := 1, height := 65535 } ∧
    Config.Wf { defaultConfig with width := 65535, height := 1 } := by
  refine ⟨test_default_parameters_are_well_formed, ⟨?_, ?_, ?_, ?_, ?_, ?_, ?_⟩, ⟨?_, ?_, ?_, ?_, ?_, ?_, ?_⟩⟩ <;> decide

theorem witness_StepKeepsTheParameters : ∃ t, step (facing State.reset .resetAssert) = .next t := ⟨_, rfl⟩

theorem witness_OnlyModeLineWritesTheMode :
    (∃ t, step (facing State.reset .resetAssert) = .next t) ∧
    ∀ m, (facing State.reset .resetAssert).inbox.head? ≠ some (.modeLine m) := ⟨⟨_, rfl⟩, fun m => by cases m <;> decide⟩

/-- A step that changes the orientation, and one that does not. -/
theorem witness_OnlyMadctlWritesTheOrientation :
    (∃ t, step (arguments State.reset 0x36 1 0 [0x80]) = .next t ∧ t.vmirror ≠ State.reset.vmirror) ∧
    ∃ t, step (opcodes State.reset [0x36]) = .next t := ⟨⟨_, rfl, by decide⟩, _, rfl⟩

theorem witness_OnlyWindowCommandsAndResetWriteTheWindow :
    (∃ t, step (arguments State.reset 0x2A 4 3 [0x09]) = .next t ∧ t.columnEnd = 9) ∧
    (∃ t, step (facing (smallWindow 10 20) .resetAssert) = .next t ∧ t.columnEnd = 239) ∧
    ∃ t, step (pixels State.reset [0, 0]) = .next t := ⟨⟨_, rfl, by decide⟩, ⟨_, rfl, by decide⟩, _, rfl⟩

theorem opcodes_commandOk : (opcodes State.reset [0x2C]).CommandOk := ⟨by decide, by decide, .inl rfl⟩

theorem witness_OnlyRamwrSetsTheLatch :
    ∃ t, (opcodes State.reset [0x2C]).CommandOk ∧ step (opcodes State.reset [0x2C]) = .next t ∧
      (opcodes State.reset [0x2C]).ramWrite = false ∧ t.ramWrite = true := ⟨_, opcodes_commandOk, rfl, rfl, rfl⟩

/-- The latch set and the select line asserted (V1.12), and an empty COMMAND buffer (V1.7). -/
theorem witness_PixelModePersists :
    (∃ t, step (facing State.reset.setLatch .selectAssert) = .next t ∧ State.reset.setLatch.ramWrite = true ∧
      ¬ (facing State.reset.setLatch .selectAssert).OpcodesNext ∧
      (facing State.reset.setLatch .selectAssert).inbox.head? ≠ some .resetAssert) ∧
    ∃ t, step (opcodes State.reset.setLatch []) = .next t ∧ ¬ (opcodes State.reset.setLatch []).OpcodesNext ∧
      (opcodes State.reset.setLatch []).inbox.head? ≠ some .resetAssert := by
  refine ⟨⟨_, rfl, rfl, ?_, by decide⟩, _, rfl, ?_, by decide⟩
  · rintro ⟨-, b, bs, rest, h⟩
    exact absurd (List.cons.inj h).1 (fun h => by cases h)
  · rintro ⟨-, b, bs, rest, h⟩
    exact absurd (List.cons.inj h).1 (by simp)

theorem witness_PixelFrameHasOneWindowAndOrientation :
    ∃ t, step (pixels State.reset [0, 0]) = .next t ∧ (pixels State.reset [0, 0]).ramWrite = true ∧ t.ramWrite = true :=
  ⟨_, rfl, rfl, rfl⟩

theorem witness_FramebufferWrittenOnlyByPixels :
    ∃ t, step (opcodes State.reset [0x99]) = .next t ∧ ¬ (opcodes State.reset [0x99]).PixelsNext :=
  ⟨_, rfl, fun h => absurd h.1 (by decide)⟩

theorem witness_PixelBuffersSendWholePixels :
    (pixels (cursorAt 120 120) [0xF8, 0, 7]).mode = .data ∧ (pixels (cursorAt 120 120) [0xF8, 0, 7]).ramWrite = true ∧
    (pixels (cursorAt 120 120) [0xF8, 0, 7]).inbox = .bytes [0xF8, 0, 7] :: [] ∧
    ∃ t, step (pixels (cursorAt 120 120) [0xF8, 0, 7]) = .next t ∧ t.outputs.length = 1 :=
  ⟨rfl, rfl, rfl, _, rfl, by decide⟩

theorem witness_StepKeepsTheCommandFieldsOk :
    ∃ t, (opcodes State.reset [0x2C]).CommandOk ∧ step (opcodes State.reset [0x2C]) = .next t :=
  ⟨_, opcodes_commandOk, rfl⟩

/-- A well-formed window, and one whose column axis is degenerate (V7.1). -/
theorem witness_StepKeepsTheCursorInTheWindow :
    (∃ t, (pixels (smallWindow 12 20) [0, 0]).CursorOk ∧ step (pixels (smallWindow 12 20) [0, 0]) = .next t) ∧
    ∃ t, (pixels { smallWindow 10 20 with columnEnd := 3 } [0, 0]).CursorOk ∧
      step (pixels { smallWindow 10 20 with columnEnd := 3 } [0, 0]) = .next t :=
  ⟨⟨_, smallWindow_cursorOk, rfl⟩, _, ⟨⟨by decide, by decide⟩, ⟨by decide, by decide⟩⟩, rfl⟩

/-- The framebuffer right after attach, and after the centre pixel. -/
theorem witness_StepKeepsTheFramebufferTheReplay :
    (∃ t, (pixels (cursorAt 120 120) [0, 0]).FramebufferOk ∧ step (pixels (cursorAt 120 120) [0, 0]) = .next t) ∧
    ((cursorAt 120 120).memWrite 115680 [1, 2, 3, 0xFF]).FramebufferOk :=
  ⟨⟨_, ⟨by decide, by decide, by decide⟩, rfl⟩, by decide, by decide, by decide⟩

/-- Two states that differ in their history and framebuffer, before a pixel. -/
theorem witness_OutputsAreNeverRead :
    let s := pixels (cursorAt 120 120) [0, 0]
    s.withoutOutputs = ((s.report 0x99).memWrite 0 [1, 2, 3, 4]).withoutOutputs ∧ (∃ t, step s = .next t) ∧
    ∃ t, step ((s.report 0x99).memWrite 0 [1, 2, 3, 4]) = .next t := ⟨rfl, ⟨_, rfl⟩, _, rfl⟩

/-- Two states that differ in an argument entry that the command in flight has not reached. -/
theorem witness_StaleArgumentsAreNeverRead :
    let s := arguments State.reset 0x2A 4 1 []
    let u := { s with commandBuf := s.commandBuf.set 1 0xFF }
    s.CommandOk ∧ SameButStale s u ∧ s ≠ u ∧ (∃ t, step s = .next t) ∧ ∃ t, step u = .next t :=
  ⟨arguments_commandOk, ⟨rfl, by decide⟩, by decide, ⟨_, rfl⟩, _, rfl⟩

end Sys2Proof.Tests
end

section
/-! PROOFS. A step on a buffer that holds exactly one frame: what the decoder says of such a buffer, what the stream of each
kind does with it, and the obligation on the step (spec/40_protocol.md R102 to R105, spec/41_commands.md R130). -/

namespace Sys2Proof.Machine

/-! ### Buffers that decode as one whole frame -/

/-- One byte is a whole command frame exactly when its opcode takes no arguments (R71). -/
theorem decode_command_singleton {cfg : Config} {op : Byte} {i : Instr} :
    decode cfg .command [op] = .ok (i, []) ↔
      opArgCount cfg.opcodeMap op = 0 ∧ opcodeInstr cfg.opcodeMap op (argBuffer []) = i := by
  by_cases h0 : opArgCount cfg.opcodeMap op = 0
  · simp [decode, h0]
  · simp [decode, h0, Nat.pos_of_ne_zero h0]

/-- A whole argument frame is one byte (R105). -/
theorem decode_argument_whole {cfg : Config} {buf : List Byte} {i : Instr}
    (h : decode cfg .argument buf = .ok (i, [])) : ∃ b, buf = [b] ∧ i = .arg b := by
  cases buf with
  | nil => cases h
  | cons b rest => cases h; exact ⟨b, rfl, rfl⟩

/-- A whole pixel frame is the two bytes of its sample (R72, R83). -/
theorem decode_pixel_whole {cfg : Config} {buf : List Byte} {i : Instr} (h : decode cfg .pixel buf = .ok (i, [])) :
    ∃ b0 b1, buf = [b0, b1] ∧ i = .pix (sampleOf cfg.sampleOrder b0 b1) := by
  match buf, h with
  | [_], h => cases h
  | [b0, b1], h => cases h; exact ⟨b0, b1, rfl, rfl⟩

/-- An opcode without arguments stands for the same instruction whatever the argument buffer holds (R26, R130). -/
theorem opcodeInstr_of_noArgs {m : OpcodeMap} {op : Byte} (h0 : opArgCount m op = 0) (a b : Vector Byte 16) :
    opcodeInstr m op a = opcodeInstr m op b :=
  opcodeInstr_congr m op a b fun k _ hk => by omega

/-! ### What each stream does with one frame -/

/-- Before the first opcode of a COMMAND buffer the latch is cleared under either policy (R102, D11). -/
theorem takeOpcode_first (s : State) (b : Byte) :
    (if s.cfg.latchClear = .perBuffer then s.clearLatch else s).takeOpcode b =
      s.clearLatch.beginCommand b (opArgCount s.cfg.opcodeMap b) := by
  cases h : s.cfg.latchClear <;> simp [State.takeOpcode, h]

/-- A COMMAND buffer of one opcode without arguments dispatches it, with the latch clear (R102). -/
theorem commandStream_singleton_of_noArgs {s : State} {b : Byte} (h0 : opArgCount s.cfg.opcodeMap b = 0) :
    commandStream [b] s = dispatch (s.clearLatch.beginCommand b 0) := by
  simp only [commandStream, runEach_cons, andThen_runEach_nil, acceptOpcode, takeOpcode_first, h0,
    State.beginCommand_commandSize, if_true]

/-- An argument byte runs `ARG`, and then the dispatcher if it was stored and completed the command (R105, R107). -/
theorem acceptArgument_eq (b : Byte) (s : State) :
    acceptArgument b s = andThen (exec (.arg b) s) fun t =>
      if s.commandIndex < s.commandSize ∧ t.commandIndex = t.commandSize then dispatch t else .next t := by
  obtain ⟨t, ht⟩ := exec_completes (.arg b) s
  by_cases h : s.commandIndex < s.commandSize <;> simp [acceptArgument, ht, h]

/-- An argument buffer of one byte. -/
@[simp] theorem argumentStream_singleton (b : Byte) (s : State) : argumentStream [b] s = acceptArgument b s :=
  andThen_runEach_nil _ _

/-- A pixel buffer of one sample runs `PIX` on it (R104). -/
theorem pixelStream_pair (b0 b1 : Byte) (s : State) :
    pixelStream [b0, b1] s = exec (.pix (sampleOf s.cfg.sampleOrder b0 b1)) s := by
  simp only [pixelStream, samplesOf, runEach_cons, andThen_runEach_nil]

/-! ### The obligation -/

/-- A step on a COMMAND buffer of one byte that is a whole frame (R102, R130). -/
theorem step_command_singleton {s : State} {op : Byte} {rest : List Event} {i : Instr}
    (hin : s.inbox = .bytes [op] :: rest) (hm : s.mode = .command) (hd : decode s.cfg .command [op] = .ok (i, [])) :
    step s = exec i { s with
      inbox := rest, ramWrite := false, commandCode := op, commandSize := 0, commandIndex := 0 } := by
  obtain ⟨h0, hi⟩ := decode_command_singleton.mp hd
  rw [step_opcodes hin hm, commandStream_singleton_of_noArgs (s := s.setInbox rest) h0]
  exact dispatch_eq_exec ((opcodeInstr_of_noArgs h0 _ _).trans hi)

/-- Settles O27: each kind of buffer is taken apart by the decoder's lemma for it, and the step by the stream's. -/
theorem stepRunsTheDecodedInstruction : Obligations.StepRunsTheDecodedInstruction := by
  intro s buf rest i hin
  refine ⟨?command, ?pixel, ?argument⟩
  case command =>
    rintro op rfl hm hd
    exact step_command_singleton hin hm hd
  case pixel =>
    intro hm hw hd
    obtain ⟨b0, b1, rfl, rfl⟩ := decode_pixel_whole hd
    rw [step_pixels hin hm hw]
    exact pixelStream_pair b0 b1 _
  case argument =>
    intro hm hw hd
    obtain ⟨b, rfl, rfl⟩ := decode_argument_whole hd
    rw [step_arguments hin hm hw, argumentStream_singleton]
    exact acceptArgument_eq b _

end Sys2Proof.Machine
end

section
/-! PROOFS. The invariants of a state: the command fields (spec/10_state.md R24, R25, R32), the cursor in its window (R33,
spec/42_pixel_pipeline.md R178 to R180), and that attach meets them and the third one (R220). -/

namespace Sys2Proof.Machine

/-! ### The command fields -/

/-- No command takes more arguments than the buffer holds (R75). -/
theorem argCount_le (c : Command) : argCount c ≤ 16 := by cases c <;> decide

/-- No opcode byte takes more arguments than the buffer holds (R75). -/
theorem opArgCount_le (m : OpcodeMap) (b : Byte) : opArgCount m b ≤ 16 := by
  cases h : commandOf m b with
  | none => simp [opArgCount, h]
  | some c => rw [opArgCount_of_commandOf h]; exact argCount_le c

/-- A command just begun has its fields in range (R102). -/
theorem takeOpcode_commandOk (s : State) (b : Byte) : (s.takeOpcode b).CommandOk := by
  simp [State.CommandOk, opArgCount_le]

/-- An argument byte stored below `command_size` leaves the fields in range (R105). -/
theorem pushArgument_commandOk {s : State} (b : Byte) (hs : s.CommandOk) (hlt : s.commandIndex < s.commandSize) :
    (s.pushArgument b).CommandOk := by
  obtain ⟨-, hsize, hcode⟩ := hs
  exact ⟨hlt, hsize, hcode⟩

/-- No command's meaning takes the command fields out of range (R130). -/
theorem dispatch_keeps_commandOk {s t : State} (hs : s.CommandOk) (h : dispatch s = .next t) : t.CommandOk := by
  obtain ⟨hcfg, -, hcode, hsize, hindex, -⟩ := dispatch_frame h
  simpa only [State.CommandOk, hcfg, hcode, hsize, hindex] using hs

/-- After an opcode byte the command fields are in range, whatever they were before (R102). -/
theorem acceptOpcode_commandOk {b : Byte} {s t : State} (h : acceptOpcode b s = .next t) : t.CommandOk := by
  obtain ⟨-, rfl⟩ | ⟨-, hd⟩ := acceptOpcode_inv h
  · exact takeOpcode_commandOk s b
  · exact dispatch_keeps_commandOk (takeOpcode_commandOk s b) hd

/-- An argument byte keeps the command fields in range (R105, R107). -/
theorem acceptArgument_keeps_commandOk {b : Byte} {s t : State} (hs : s.CommandOk) (h : acceptArgument b s = .next t) :
    t.CommandOk := by
  obtain ⟨-, rfl⟩ | ⟨hlt, rfl⟩ | ⟨heq, hd⟩ := acceptArgument_inv h
  · exact hs
  · exact pushArgument_commandOk b hs (by omega)
  · exact dispatch_keeps_commandOk (pushArgument_commandOk b hs (by omega)) hd

/-- A sample keeps the command fields in range: it writes none of them (R170). -/
theorem exec_pix_keeps_commandOk {v : Word} {s t : State} (hs : s.CommandOk) (h : exec (.pix v) s = .next t) :
    t.CommandOk := by
  obtain rfl := exec_pix_inv h
  simpa [State.CommandOk] using hs

/-- No command in flight is in range (R110, R221). -/
theorem discardCommand_commandOk (s : State) : s.discardCommand.CommandOk := ⟨le_rfl, Nat.zero_le _, .inl rfl⟩

/-- Settles O56: every part of a step keeps the command fields in range. -/
theorem stepKeepsTheCommandFieldsOk : Obligations.StepKeepsTheCommandFieldsOk :=
  step_keeps State.CommandOk
    (hinbox := fun _ _ hs => hs)
    (hclear := fun _ hs => hs)
    (hopcode := fun _ _ _ _ => acceptOpcode_commandOk)
    (hargument := fun _ _ _ => acceptArgument_keeps_commandOk)
    (hpixel := fun _ _ _ => exec_pix_keeps_commandOk)
    (hmode := fun _ _ hs => hs)
    (hselect := fun s _ => discardCommand_commandOk s)
    (hreset := fun s _ => discardCommand_commandOk s.fullPanel.clearLatch)

/-! ### The cursor in its window -/

/-- The start of a window is a place for its cursor, degenerate or not (R33). -/
theorem axisOk_start (first last : Word) : AxisOk first last first := ⟨fun h => ⟨le_rfl, h⟩, fun _ => rfl⟩

/-- An axis keeps its cursor in place: it reloads from the start, or it goes up below the end, which a degenerate window does
not do, since its cursor is at a start above the end (R178 to R180). -/
theorem nextOnAxis_axisOk {cur first last : Word} (h : AxisOk first last cur) :
    AxisOk first last (nextOnAxis cur first last).1 := by
  obtain ⟨hwf, hdeg⟩ := h
  obtain ⟨-, e⟩ | ⟨hle, e, hnext⟩ := nextOnAxis_cases cur first last
  · rw [e]; exact axisOk_start first last
  · rw [e]
    refine ⟨fun hfl => ?_, fun hlf => ?_⟩
    · have := hwf hfl
      dsimp only
      omega
    · obtain rfl := hdeg hlf
      omega

/-- `Advance()` keeps the cursor in its window in either orientation (R178, R179). -/
theorem advance_keeps_cursorOk {s : State} (hs : s.CursorOk) : s.advance.CursorOk := by
  obtain ⟨hcol, hpage⟩ := hs
  have hcol' := nextOnAxis_axisOk hcol
  have hpage' := nextOnAxis_axisOk hpage
  cases hw : s.swap with
  | false =>
    rw [s.advance_cursor_of_not_swap hw]
    refine ⟨hcol', ?_⟩
    dsimp only [State.setCursor]
    split <;> assumption
  | true =>
    rw [s.advance_cursor_of_swap hw]
    refine ⟨?_, hpage'⟩
    dsimp only [State.setCursor]
    split <;> assumption

/-- A dispatch leaves window and cursor alone, or gives one axis a window with the cursor at its start (R131, R132, D23). -/
theorem dispatch_keeps_cursorOk {s t : State} (hs : s.CursorOk) (h : dispatch s = .next t) : t.CursorOk := by
  rcases dispatch_inv h with rfl | rfl | rfl | ⟨-, rfl⟩ | ⟨-, x, y, z, rfl⟩ | ⟨-, ⟨x, y, rfl⟩ | ⟨x, y, rfl⟩⟩
  · exact hs
  · simpa [State.CursorOk] using hs
  · exact hs
  · exact hs
  · exact hs
  · exact ⟨axisOk_start x y, hs.2⟩
  · exact ⟨hs.1, axisOk_start _ _⟩

/-- An opcode byte keeps the cursor in its window (R102). -/
theorem acceptOpcode_keeps_cursorOk {b : Byte} {s t : State} (hs : s.CursorOk) (h : acceptOpcode b s = .next t) :
    t.CursorOk := by
  have hb : (s.takeOpcode b).CursorOk := by simpa [State.CursorOk] using hs
  obtain ⟨-, rfl⟩ | ⟨-, hd⟩ := acceptOpcode_inv h
  · exact hb
  · exact dispatch_keeps_cursorOk hb hd

/-- An argument byte keeps the cursor in its window (R105). -/
theorem acceptArgument_keeps_cursorOk {b : Byte} {s t : State} (hs : s.CursorOk) (h : acceptArgument b s = .next t) :
    t.CursorOk := by
  obtain ⟨-, rfl⟩ | ⟨-, rfl⟩ | ⟨-, hd⟩ := acceptArgument_inv h
  · exact hs
  · exact hs
  · exact dispatch_keeps_cursorOk (s := s.pushArgument b) hs hd

/-- A sample keeps the cursor in its window (R170, R181). -/
theorem exec_pix_keeps_cursorOk {v : Word} {s t : State} (hs : s.CursorOk) (h : exec (.pix v) s = .next t) :
    t.CursorOk := by
  obtain rfl := exec_pix_inv h
  exact advance_keeps_cursorOk (by simpa [State.CursorOk] using hs)

/-- The full-panel window has its cursor at its origin (R220, R221). -/
theorem fullPanel_cursorOk (s : State) : s.fullPanel.CursorOk := ⟨axisOk_start _ _, axisOk_start _ _⟩

/-- Settles O57: every part of a step keeps the cursor in its window, axis by axis. -/
theorem stepKeepsTheCursorInTheWindow : Obligations.StepKeepsTheCursorInTheWindow :=
  step_keeps State.CursorOk
    (hinbox := fun _ _ hs => hs)
    (hclear := fun _ hs => hs)
    (hopcode := fun _ _ _ => acceptOpcode_keeps_cursorOk)
    (hargument := fun _ _ _ => acceptArgument_keeps_cursorOk)
    (hpixel := fun _ _ _ => exec_pix_keeps_cursorOk)
    (hmode := fun _ _ hs => hs)
    (hselect := fun _ hs => hs)
    (hreset := fun s _ => fullPanel_cursorOk s)

/-- Settles O55: no command is in flight, both cursors stand at the start of their axis, and nothing is stored or sent. -/
theorem attachMeetsTheInvariants : Obligations.AttachMeetsTheInvariants := by
  intro c
  refine ⟨?command, ?cursor, ?framebuffer⟩
  case command => exact ⟨le_rfl, Nat.zero_le _, .inl rfl⟩
  case cursor => exact ⟨axisOk_start _ _, axisOk_start _ _⟩
  case framebuffer => exact ⟨rfl, List.forall_mem_nil _, rfl⟩

end Sys2Proof.Machine
end

section
/-! PROOFS. Which events write which fields: everything one step can do with its event, what each stream of bytes leaves as it
was, and the obligations on the parameters, the mode, the orientation, the window and the latch (spec/10_state.md R22, R27, R28,
R30, R31). -/

namespace Sys2Proof.Machine

/-! ### One step, event by event -/

/-- Everything the step from `s` to `t` can have done with its event (R6, R100 to R111, R221, R222). -/
inductive StepCase (s : State) : State → Prop where
  /-- there was no event. -/
  | idle (hin : s.inbox = []) : StepCase s s
  /-- a COMMAND buffer without a byte. -/
  | noOpcodes {rest : List Event} (hm : s.mode = .command) (hin : s.inbox = .bytes [] :: rest) :
    StepCase s (s.setInbox rest)
  /-- a COMMAND buffer with a byte. -/
  | opcodes {b : Byte} {bs : List Byte} {rest : List Event} {t : State} (hm : s.mode = .command)
    (hin : s.inbox = .bytes (b :: bs) :: rest) (h : commandStream (b :: bs) (s.setInbox rest) = .next t) : StepCase s t
  /-- a DATA buffer while the latch is clear. -/
  | arguments {buf : List Byte} {rest : List Event} {t : State} (hm : s.mode = .data) (hw : s.ramWrite = false)
    (hin : s.inbox = .bytes buf :: rest) (h : argumentStream buf (s.setInbox rest) = .next t) : StepCase s t
  /-- a DATA buffer while the latch is set. -/
  | pixels {buf : List Byte} {rest : List Event} {t : State} (hm : s.mode = .data) (hw : s.ramWrite = true)
    (hin : s.inbox = .bytes buf :: rest) (h : pixelStream buf (s.setInbox rest) = .next t) : StepCase s t
  /-- a transition of the mode line. -/
  | modeLine {m : Mode} {rest : List Event} (hin : s.inbox = .modeLine m :: rest) : StepCase s ((s.setInbox rest).setMode m)
  /-- select asserted. -/
  | selectAssert {rest : List Event} (hin : s.inbox = .selectAssert :: rest) : StepCase s (s.setInbox rest).discardCommand
  /-- select deasserted. -/
  | selectDeassert {rest : List Event} (hin : s.inbox = .selectDeassert :: rest) : StepCase s (s.setInbox rest)
  /-- the reset line going active. -/
  | resetAssert {rest : List Event} (hin : s.inbox = .resetAssert :: rest) : StepCase s (s.setInbox rest).chipReset
  /-- the reset line going inactive. -/
  | resetDeassert {rest : List Event} (hin : s.inbox = .resetDeassert :: rest) : StepCase s (s.setInbox rest)

/-- A step that reads a buffer did what the mode and the latch say (R100 to R103). -/
theorem stepCase_of_bytes {s t : State} {buf : List Byte} {rest : List Event} (hin : s.inbox = .bytes buf :: rest)
    (h : step s = .next t) : StepCase s t := by
  cases hm : s.mode with
  | command =>
    cases buf with
    | nil => rw [step_bytes hin] at h; cases h; exact .noOpcodes hm hin
    | cons b bs => exact .opcodes hm hin ((step_opcodes hin hm).symm.trans h)
  | data =>
    cases hw : s.ramWrite with
    | false => exact .arguments hm hw hin ((step_arguments hin hm hw).symm.trans h)
    | true => exact .pixels hm hw hin ((step_pixels hin hm hw).symm.trans h)

/-- What a step that answers `t` did. -/
theorem step_inv {s t : State} (h : step s = .next t) : StepCase s t := by
  cases hin : s.inbox with
  | nil =>
    rw [step, deliverNext, hin] at h
    cases h
    exact .idle hin
  | cons e rest =>
    cases e with
    | bytes buf => exact stepCase_of_bytes hin h
    | modeLine m => rw [step_event hin] at h; cases h; exact .modeLine hin
    | selectAssert => rw [step_event hin] at h; cases h; exact .selectAssert hin
    | selectDeassert => rw [step_event hin] at h; cases h; exact .selectDeassert hin
    | resetAssert => rw [step_event hin] at h; cases h; exact .resetAssert hin
    | resetDeassert => rw [step_event hin] at h; cases h; exact .resetDeassert hin

/-! ### What opcode bytes and samples leave as it was -/

/-- The state `t` has the parameters, the mode, the orientation and the window of `s`. -/
structure SameSetup (s t : State) : Prop where
  cfg : t.cfg = s.cfg
  mode : t.mode = s.mode
  orientation : t.swap = s.swap ∧ t.hmirror = s.hmirror ∧ t.vmirror = s.vmirror
  window : t.columnStart = s.columnStart ∧ t.columnEnd = s.columnEnd ∧ t.pageStart = s.pageStart ∧ t.pageEnd = s.pageEnd

theorem SameSetup.refl (s : State) : SameSetup s s := ⟨rfl, rfl, ⟨rfl, rfl, rfl⟩, rfl, rfl, rfl, rfl⟩

theorem SameSetup.trans {s u t : State} (h : SameSetup s u) (h' : SameSetup u t) : SameSetup s t := by
  obtain ⟨hc, hm, ⟨hx, hy, hz⟩, h1, h2, h3, h4⟩ := h
  obtain ⟨hc', hm', ⟨hx', hy', hz'⟩, h1', h2', h3', h4'⟩ := h'
  exact ⟨hc'.trans hc, hm'.trans hm, ⟨hx'.trans hx, hy'.trans hy, hz'.trans hz⟩,
    h1'.trans h1, h2'.trans h2, h3'.trans h3, h4'.trans h4⟩

/-- Handling a list of inputs keeps what handling each one keeps. -/
theorem runEach_sameSetup {α : Type} {f : α → State → Result} (hf : ∀ a s t, f a s = .next t → SameSetup s t)
    {as : List α} {s t : State} (h : runEach f as s = .next t) : SameSetup s t :=
  runEach_relates SameSetup SameSetup.refl (fun _ _ _ => SameSetup.trans) hf as s t h

theorem takeOpcode_sameSetup (s : State) (b : Byte) : SameSetup s (s.takeOpcode b) := by
  constructor <;> simp

/-- An opcode byte dispatches only commands without arguments, and none of those writes the setup (R102). -/
theorem acceptOpcode_sameSetup {b : Byte} {s t : State} (h : acceptOpcode b s = .next t) : SameSetup s t := by
  refine (takeOpcode_sameSetup s b).trans ?_
  obtain ⟨-, rfl⟩ | ⟨h0, hd⟩ := acceptOpcode_inv h
  · exact .refl _
  · rcases dispatch_inv_noArgs hd (by simpa using h0) with rfl | rfl | rfl | ⟨-, rfl⟩
    · exact .refl _
    · constructor <;> simp
    · constructor <;> simp
    · constructor <;> simp

/-- A COMMAND buffer runs its opcode bytes, with the latch cleared first under `PER_BUFFER` (R102). -/
theorem commandStream_inv {buf : List Byte} {s t : State} (h : commandStream buf s = .next t) :
    (s.cfg.latchClear = .perBuffer ∧ runEach acceptOpcode buf s.clearLatch = .next t) ∨
    (s.cfg.latchClear ≠ .perBuffer ∧ runEach acceptOpcode buf s = .next t) := by
  unfold commandStream at h
  split at h
  · exact .inl ⟨‹_›, h⟩
  · exact .inr ⟨‹_›, h⟩

theorem commandStream_sameSetup {buf : List Byte} {s t : State} (h : commandStream buf s = .next t) : SameSetup s t := by
  obtain ⟨-, h⟩ | ⟨-, h⟩ := commandStream_inv h
  · exact SameSetup.trans (u := s.clearLatch) (by constructor <;> simp)
      (runEach_sameSetup (fun _ _ _ => acceptOpcode_sameSetup) h)
  · exact runEach_sameSetup (fun _ _ _ => acceptOpcode_sameSetup) h

/-- A sample writes the cursor and the outputs (R170). -/
theorem exec_pix_sameSetup {v : Word} {s t : State} (h : exec (.pix v) s = .next t) : SameSetup s t := by
  obtain rfl := exec_pix_inv h
  constructor <;> simp

theorem pixelStream_sameSetup {buf : List Byte} {s t : State} (h : pixelStream buf s = .next t) : SameSetup s t :=
  runEach_sameSetup (fun _ _ _ => exec_pix_sameSetup) h

theorem pixelStream_ramWrite {buf : List Byte} {s t : State} (h : pixelStream buf s = .next t) :
    t.ramWrite = s.ramWrite :=
  runEach_relates (fun s t => t.ramWrite = s.ramWrite) (fun _ => rfl) (fun _ _ _ h h' => h'.trans h)
    (fun _ _ _ h => by obtain rfl := exec_pix_inv h; simp) _ s t h

/-! ### What opcode bytes do to the latch -/

/-- An opcode byte leaves the latch set only where it was set before or the byte is `RAMWR` (R144). -/
theorem acceptOpcode_ramWrite {b : Byte} {s t : State} (h : acceptOpcode b s = .next t) (ht : t.ramWrite = true) :
    s.ramWrite = true ∨ commandOf s.cfg.opcodeMap b = some .ramwr := by
  have hb : (s.takeOpcode b).ramWrite = true → s.ramWrite = true := by
    unfold State.takeOpcode
    split <;> simp
  obtain ⟨-, rfl⟩ | ⟨h0, hd⟩ := acceptOpcode_inv h
  · exact .inl (hb ht)
  · rcases dispatch_inv_noArgs hd (by simpa using h0) with rfl | rfl | rfl | ⟨hc, -⟩
    · exact .inl (hb ht)
    · exact .inl (hb (by simpa using ht))
    · exact .inl (hb ht)
    · exact .inr (by simpa using hc)

/-- Opcode bytes leave the latch set only where it was set before or `RAMWR` is among them. -/
theorem runEach_acceptOpcode_ramWrite {buf : List Byte} {s t : State} (h : runEach acceptOpcode buf s = .next t)
    (ht : t.ramWrite = true) : s.ramWrite = true ∨ ∃ b ∈ buf, commandOf s.cfg.opcodeMap b = some .ramwr := by
  induction buf generalizing s with
  | nil => cases h; exact .inl ht
  | cons b bs ih =>
    obtain ⟨u, hu, hrest⟩ := andThen_eq_next h
    obtain hset | ⟨b', hmem, hb'⟩ := ih hrest
    · exact (acceptOpcode_ramWrite hu hset).imp_right fun hb => ⟨b, List.mem_cons_self, hb⟩
    · rw [(acceptOpcode_sameSetup hu).cfg] at hb'
      exact .inr ⟨b', List.mem_cons_of_mem _ hmem, hb'⟩

/-- A COMMAND buffer that sets the latch holds `RAMWR` (R27). -/
theorem commandStream_ramwr {buf : List Byte} {s t : State} (h : commandStream buf s = .next t) (hs : s.ramWrite = false)
    (ht : t.ramWrite = true) : ∃ b ∈ buf, commandOf s.cfg.opcodeMap b = some .ramwr := by
  obtain ⟨-, h⟩ | ⟨-, h⟩ := commandStream_inv h
  · exact (runEach_acceptOpcode_ramWrite h ht).resolve_left Bool.false_ne_true
  · exact (runEach_acceptOpcode_ramWrite h ht).resolve_left (by simp [hs])

/-! ### What argument bytes do -/

/-- With no argument missing, argument bytes are dropped (R107). -/
theorem argumentStream_dropped {buf : List Byte} {s t : State} (h : argumentStream buf s = .next t)
    (hfull : s.commandSize ≤ s.commandIndex) : t = s := by
  induction buf with
  | nil => cases h; rfl
  | cons b bs ih =>
    obtain ⟨u, hu, hrest⟩ := andThen_eq_next h
    obtain ⟨-, rfl⟩ | ⟨hlt, -⟩ | ⟨heq, -⟩ := acceptArgument_inv hu
    · exact ih hrest
    · omega
    · omega

/-- What an argument buffer did: beyond the argument buffer and `command_index`, nothing or the one dispatch of the command in
flight, which it had the missing bytes for (R105 to R107). -/
theorem argumentStream_inv {buf : List Byte} {s t : State} (h : argumentStream buf s = .next t) :
    ∃ v i, t = { s with commandBuf := v, commandIndex := i } ∨
      (s.commandIndex < s.commandSize ∧ s.commandSize ≤ s.commandIndex + buf.length ∧
        dispatch { s with commandBuf := v, commandIndex := i } = .next t) := by
  induction buf generalizing s with
  | nil => cases h; exact ⟨_, _, .inl rfl⟩
  | cons b bs ih =>
    rw [List.length_cons]
    obtain ⟨u, hu, hrest⟩ := andThen_eq_next h
    obtain ⟨hfull, rfl⟩ | ⟨hlt, rfl⟩ | ⟨heq, hd⟩ := acceptArgument_inv hu
    · exact ⟨_, _, .inl (argumentStream_dropped hrest hfull)⟩
    · obtain ⟨v, i, e | ⟨-, hlen, hd⟩⟩ := ih hrest
      · exact ⟨v, i, .inl e⟩
      · rw [State.pushArgument_commandSize, State.pushArgument_commandIndex] at hlen
        exact ⟨v, i, .inr ⟨by omega, by omega, hd⟩⟩
    · obtain ⟨-, -, -, hsize, hindex, -⟩ := dispatch_frame hd
      rw [State.pushArgument_commandSize] at hsize
      rw [State.pushArgument_commandIndex] at hindex
      obtain rfl := argumentStream_dropped hrest (by omega)
      exact ⟨_, _, .inr ⟨by omega, by omega, hd⟩⟩

/-- An argument buffer writes no parameter and no mode (R31, R22). -/
theorem argumentStream_frame {buf : List Byte} {s t : State} (h : argumentStream buf s = .next t) :
    t.cfg = s.cfg ∧ t.mode = s.mode := by
  obtain ⟨v, i, rfl | ⟨-, -, hd⟩⟩ := argumentStream_inv h
  · exact ⟨rfl, rfl⟩
  · obtain ⟨hcfg, hmode, -⟩ := dispatch_frame hd
    exact ⟨hcfg, hmode⟩

/-! ### What a dispatch leaves as it was -/

/-- Only `MADCTL` writes the orientation (R145). -/
theorem dispatch_orientation {s t : State} (h : dispatch s = .next t) :
    (t.swap = s.swap ∧ t.hmirror = s.hmirror ∧ t.vmirror = s.vmirror) ∨
    commandOf s.cfg.opcodeMap s.commandCode = some .madctl := by
  rcases dispatch_inv h with rfl | rfl | rfl | ⟨-, rfl⟩ | ⟨hc, -⟩ | ⟨-, ⟨x, y, rfl⟩ | ⟨x, y, rfl⟩⟩
  pick_goal 5
  · exact .inr hc
  all_goals exact .inl (by simp)

/-- Only `CASET` and `PASET` write the window (R146, R147). -/
theorem dispatch_window {s t : State} (h : dispatch s = .next t) :
    (t.columnStart = s.columnStart ∧ t.columnEnd = s.columnEnd ∧ t.pageStart = s.pageStart ∧ t.pageEnd = s.pageEnd) ∨
    commandOf s.cfg.opcodeMap s.commandCode = some .caset ∨ commandOf s.cfg.opcodeMap s.commandCode = some .paset := by
  rcases dispatch_inv h with rfl | rfl | rfl | ⟨-, rfl⟩ | ⟨-, x, y, z, rfl⟩ | ⟨hc, -⟩
  pick_goal 6
  · exact .inr hc
  all_goals exact .inl (by simp)

/-- Only `RAMWR` writes the latch (R144). -/
theorem dispatch_ramWrite {s t : State} (h : dispatch s = .next t) :
    t.ramWrite = s.ramWrite ∨ commandOf s.cfg.opcodeMap s.commandCode = some .ramwr := by
  rcases dispatch_inv h with rfl | rfl | rfl | ⟨hc, -⟩ | ⟨-, x, y, z, rfl⟩ | ⟨-, ⟨x, y, rfl⟩ | ⟨x, y, rfl⟩⟩
  pick_goal 4
  · exact .inr hc
  all_goals exact .inl (by simp)

/-- From command fields in range an argument buffer does not write the latch: `RAMWR` takes no arguments (R27, R75). -/
theorem argumentStream_ramWrite {buf : List Byte} {s t : State} (h : argumentStream buf s = .next t) (hs : s.CommandOk) :
    t.ramWrite = s.ramWrite := by
  obtain ⟨v, i, rfl | ⟨hlt, -, hd⟩⟩ := argumentStream_inv h
  · rfl
  · refine (dispatch_ramWrite hd).resolve_right fun hc => ?_
    obtain ⟨-, -, hsize⟩ := hs
    have h0 : opArgCount s.cfg.opcodeMap s.commandCode = 0 := opArgCount_of_commandOf hc
    omega

/-! ### The obligations -/

/-- Settles O46: no stream of bytes and no line event writes a parameter. -/
theorem stepKeepsTheParameters : Obligations.StepKeepsTheParameters := by
  intro s t h
  cases step_inv h with
  | opcodes _ _ hb => exact (commandStream_sameSetup hb).cfg
  | arguments _ _ _ hb => exact (argumentStream_frame hb).1
  | pixels _ _ _ hb => exact (pixelStream_sameSetup hb).cfg
  | _ => rfl

/-- Settles O47: no stream of bytes and no line event but `ModeLine` writes the mode. -/
theorem onlyModeLineWritesTheMode : Obligations.OnlyModeLineWritesTheMode := by
  intro s t h hno
  cases step_inv h with
  | opcodes _ _ hb => exact (commandStream_sameSetup hb).mode
  | arguments _ _ _ hb => exact (argumentStream_frame hb).2
  | pixels _ _ _ hb => exact (pixelStream_sameSetup hb).mode
  | modeLine hin => exact absurd (by rw [hin]; rfl) (hno _)
  | _ => rfl

/-- Settles O48: of the streams only that of arguments can write the orientation, by dispatching a `MADCTL` in flight. -/
theorem onlyMadctlWritesTheOrientation : Obligations.OnlyMadctlWritesTheOrientation := by
  intro s t h
  cases step_inv h with
  | opcodes _ _ hb => exact .inl (commandStream_sameSetup hb).orientation
  | pixels _ _ _ hb => exact .inl (pixelStream_sameSetup hb).orientation
  | arguments hm hw hin hb =>
    obtain ⟨v, i, rfl | ⟨hlt, hlen, hd⟩⟩ := argumentStream_inv hb
    · exact .inl ⟨rfl, rfl, rfl⟩
    · exact (dispatch_orientation hd).imp_right fun hc => ⟨hm, hw, hlt, hc, _, _, hin, hlen⟩
  | _ => exact .inl ⟨rfl, rfl, rfl⟩

/-- Settles O49: of the streams only that of arguments can write the window, by dispatching a `CASET` or `PASET` in flight, and
of the line events only `ResetAssert`. -/
theorem onlyWindowCommandsAndResetWriteTheWindow : Obligations.OnlyWindowCommandsAndResetWriteTheWindow := by
  intro s t h
  cases step_inv h with
  | opcodes _ _ hb => exact .inl (commandStream_sameSetup hb).window
  | pixels _ _ _ hb => exact .inl (pixelStream_sameSetup hb).window
  | arguments hm hw hin hb =>
    obtain ⟨v, i, rfl | ⟨hlt, hlen, hd⟩⟩ := argumentStream_inv hb
    · exact .inl ⟨rfl, rfl, rfl, rfl⟩
    · exact (dispatch_window hd).imp_right fun hc => .inl ⟨hm, hw, hlt, hc, _, _, hin, hlen⟩
  | resetAssert hin => exact .inr (.inr (by rw [hin]; rfl))
  | _ => exact .inl ⟨rfl, rfl, rfl, rfl⟩

/-- Settles O50: of the streams only that of opcodes can set the latch, by dispatching `RAMWR`, and no line event does. -/
theorem onlyRamwrSetsTheLatch : Obligations.OnlyRamwrSetsTheLatch := by
  intro s t hs h hclear hset
  cases step_inv h with
  | opcodes hm hin hb =>
    have hramwr := commandStream_ramwr hb hclear hset
    exact ⟨hm, _, _, hin, hramwr⟩
  | arguments _ hw _ hb =>
    have hlatch := argumentStream_ramWrite hb hs
    exact absurd (hw.symm.trans (hlatch.symm.trans hset)) Bool.false_ne_true
  | pixels _ hw => exact absurd (hclear.symm.trans hw) Bool.false_ne_true
  | resetAssert => cases hset
  | _ => exact absurd (hclear.symm.trans hset) Bool.false_ne_true

/-- Settles O51: with the latch set a DATA buffer is one of pixels, which leaves it set, and of the line events only
`ResetAssert` clears it. -/
theorem pixelModePersists : Obligations.PixelModePersists := by
  intro s t h hset hno hnoreset
  cases step_inv h with
  | opcodes hm hin => exact absurd ⟨hm, _, _, _, hin⟩ hno
  | arguments _ hw => exact absurd (hw.symm.trans hset) Bool.false_ne_true
  | pixels _ _ _ hb => exact (pixelStream_ramWrite hb).trans hset
  | resetAssert hin => exact absurd (by rw [hin]; rfl) hnoreset
  | _ => exact hset

end Sys2Proof.Machine
end

section
/-! PROOFS. Two runs of a step from two states (noninterference): the induction over a step for a relation between the states of
the two runs, and the obligation that argument entries not yet accumulated are never read (spec/10_state.md R26, D24). -/

namespace Sys2Proof.Machine

/-! ### Two runs of a step -/

/-- Two runs of `f` from related states: when the first reaches a next state, so does the second, and a related one. -/
def Simulates (Q : State → State → Prop) (f : State → Result) : Prop :=
  ∀ s₁ s₂ t₁, Q s₁ s₂ → f s₁ = .next t₁ → ∃ t₂, f s₂ = .next t₂ ∧ Q t₁ t₂

/-- Handling a list of inputs keeps two runs related if handling each one does. -/
theorem runEach_simulates {α : Type} {f : α → State → Result} {Q : State → State → Prop} (hf : ∀ a, Simulates Q (f a))
    (as : List α) : Simulates Q (runEach f as) := by
  induction as with
  | nil => rintro s₁ s₂ t₁ hQ h; cases h; exact ⟨s₂, rfl, hQ⟩
  | cons a as ih =>
    intro s₁ s₂ t₁ hQ h
    obtain ⟨u₁, hu₁, hrest₁⟩ := andThen_eq_next h
    obtain ⟨u₂, hu₂, hu⟩ := hf a s₁ s₂ u₁ hQ hu₁
    obtain ⟨t₂, hrest₂, ht⟩ := ih u₁ u₂ t₁ hu hrest₁
    exact ⟨t₂, by rw [runEach_cons, hu₂]; exact hrest₂, ht⟩

/-- A relation between the states of two runs that fixes all that the protocol branches on, and that every part of a step
keeps. -/
structure StepSimulation (Q : State → State → Prop) : Prop where
  cfg : ∀ {s₁ s₂}, Q s₁ s₂ → s₁.cfg = s₂.cfg
  mode : ∀ {s₁ s₂}, Q s₁ s₂ → s₁.mode = s₂.mode
  ramWrite : ∀ {s₁ s₂}, Q s₁ s₂ → s₁.ramWrite = s₂.ramWrite
  inbox : ∀ {s₁ s₂}, Q s₁ s₂ → s₁.inbox = s₂.inbox
  setInbox : ∀ {s₁ s₂} l, Q s₁ s₂ → Q (s₁.setInbox l) (s₂.setInbox l)
  clearLatch : ∀ {s₁ s₂}, Q s₁ s₂ → Q s₁.clearLatch s₂.clearLatch
  setMode : ∀ {s₁ s₂} m, Q s₁ s₂ → Q (s₁.setMode m) (s₂.setMode m)
  discardCommand : ∀ {s₁ s₂}, Q s₁ s₂ → Q s₁.discardCommand s₂.discardCommand
  chipReset : ∀ {s₁ s₂}, Q s₁ s₂ → Q s₁.chipReset s₂.chipReset
  opcode : ∀ b, Simulates Q (acceptOpcode b)
  argument : ∀ b, Simulates Q (acceptArgument b)
  pixel : ∀ v, Simulates Q (exec (.pix v))

theorem StepSimulation.commandStream_simulates {Q : State → State → Prop} (hQ : StepSimulation Q) (buf : List Byte) :
    Simulates Q (commandStream buf) := by
  intro s₁ s₂ t₁ h h₁
  unfold commandStream at h₁ ⊢
  rw [← hQ.cfg h]
  by_cases hc : s₁.cfg.latchClear = .perBuffer
  · rw [if_pos hc] at h₁ ⊢
    exact runEach_simulates hQ.opcode buf _ _ t₁ (hQ.clearLatch h) h₁
  · rw [if_neg hc] at h₁ ⊢
    exact runEach_simulates hQ.opcode buf _ _ t₁ h h₁

theorem StepSimulation.dataStream_simulates {Q : State → State → Prop} (hQ : StepSimulation Q) (buf : List Byte) :
    Simulates Q (dataStream buf) := by
  intro s₁ s₂ t₁ h h₁
  unfold dataStream pixelStream argumentStream at h₁ ⊢
  rw [← hQ.ramWrite h, ← hQ.cfg h]
  by_cases hw : s₁.ramWrite = true
  · rw [if_pos hw] at h₁ ⊢
    exact runEach_simulates hQ.pixel _ _ _ t₁ h h₁
  · rw [if_neg hw] at h₁ ⊢
    exact runEach_simulates hQ.argument buf _ _ t₁ h h₁

theorem StepSimulation.handleBytes_simulates {Q : State → State → Prop} (hQ : StepSimulation Q) (buf : List Byte) :
    Simulates Q (handleBytes buf) := by
  intro s₁ s₂ t₁ h h₁
  cases buf with
  | nil => cases h₁; exact ⟨s₂, rfl, h⟩
  | cons b bs =>
    unfold handleBytes at h₁ ⊢
    dsimp only at h₁ ⊢
    rw [← hQ.mode h]
    cases hm : s₁.mode with
    | command => rw [hm] at h₁; exact hQ.commandStream_simulates _ _ _ t₁ h h₁
    | data => rw [hm] at h₁; exact hQ.dataStream_simulates _ _ _ t₁ h h₁

theorem StepSimulation.handle_simulates {Q : State → State → Prop} (hQ : StepSimulation Q) (e : Event) :
    Simulates Q (handle e) := by
  intro s₁ s₂ t₁ h h₁
  cases e with
  | bytes buf => exact hQ.handleBytes_simulates buf s₁ s₂ t₁ h h₁
  | modeLine m => cases h₁; exact ⟨_, rfl, hQ.setMode m h⟩
  | selectAssert => cases h₁; exact ⟨_, rfl, hQ.discardCommand h⟩
  | selectDeassert => cases h₁; exact ⟨_, rfl, h⟩
  | resetAssert => cases h₁; exact ⟨_, rfl, hQ.chipReset h⟩
  | resetDeassert => cases h₁; exact ⟨_, rfl, h⟩

/-- The induction over two runs of a step. -/
theorem StepSimulation.step_simulates {Q : State → State → Prop} (hQ : StepSimulation Q) : Simulates Q step := by
  intro s₁ s₂ t₁ h h₁
  unfold step deliverNext at h₁ ⊢
  rw [← hQ.inbox h]
  cases hin : s₁.inbox with
  | nil => rw [hin] at h₁; cases h₁; exact ⟨s₂, rfl, h⟩
  | cons e rest => rw [hin] at h₁; exact hQ.handle_simulates e _ _ t₁ (hQ.setInbox rest h) h₁

/-! ### Another argument buffer -/

/-- The same state with another argument buffer. -/
def State.setBuffer (s : State) (v : Vector Byte 16) : State := { s with commandBuf := v }

@[simp] theorem State.setBuffer_cfg (s : State) (v : Vector Byte 16) : (s.setBuffer v).cfg = s.cfg := rfl
@[simp] theorem State.setBuffer_commandCode (s : State) (v : Vector Byte 16) :
    (s.setBuffer v).commandCode = s.commandCode := rfl
@[simp] theorem State.setBuffer_commandSize (s : State) (v : Vector Byte 16) :
    (s.setBuffer v).commandSize = s.commandSize := rfl
@[simp] theorem State.setBuffer_commandIndex (s : State) (v : Vector Byte 16) :
    (s.setBuffer v).commandIndex = s.commandIndex := rfl
@[simp] theorem State.setBuffer_swap (s : State) (v : Vector Byte 16) : (s.setBuffer v).swap = s.swap := rfl
@[simp] theorem State.setBuffer_commandBuf (s : State) (v : Vector Byte 16) : (s.setBuffer v).commandBuf = v := rfl

/-- Two buffers hold the same first `n` entries. -/
def AgreeBelow (n : Nat) (v w : Vector Byte 16) : Prop := ∀ (i : Nat) (hi : i < 16), i < n → v[i] = w[i]

/-- A byte stored at the end of what two buffers agree on extends it (R105). -/
theorem AgreeBelow.setIfInBounds {n : Nat} {v w : Vector Byte 16} (h : AgreeBelow n v w) (b : Byte) :
    AgreeBelow (n + 1) (v.setIfInBounds n b) (w.setIfInBounds n b) := by
  intro i hi hlt
  rw [Vector.getElem_setIfInBounds hi, Vector.getElem_setIfInBounds hi]
  split
  · rfl
  · exact h i hi (by omega)

theorem takeOpcode_setBuffer (s : State) (v : Vector Byte 16) (b : Byte) :
    (s.setBuffer v).takeOpcode b = (s.takeOpcode b).setBuffer v := by
  unfold State.takeOpcode
  rw [State.setBuffer_cfg]
  split <;> rfl

theorem reportUnhandled_setBuffer (s : State) (v : Vector Byte 16) :
    (s.setBuffer v).reportUnhandled = s.reportUnhandled.setBuffer v := by
  unfold State.reportUnhandled
  rw [State.setBuffer_cfg]
  split <;> rfl

theorem plot_setBuffer (s : State) (v : Vector Byte 16) (x : Word) : (s.setBuffer v).plot x = (s.plot x).setBuffer v := by
  unfold State.plot
  rw [State.setBuffer_cfg, show (s.setBuffer v).cursorPoint = s.cursorPoint from rfl]
  split <;> rfl

theorem advance_setBuffer (s : State) (v : Vector Byte 16) : (s.setBuffer v).advance = s.advance.setBuffer v := by
  cases h : s.swap with
  | false => rw [s.advance_cursor_of_not_swap h, (s.setBuffer v).advance_cursor_of_not_swap h]; rfl
  | true => rw [s.advance_cursor_of_swap h, (s.setBuffer v).advance_cursor_of_swap h]; rfl

/-- A sample does not read the argument buffer (R170). -/
theorem exec_pix_setBuffer {x : Word} {s t : State} (h : exec (.pix x) s = .next t) (v : Vector Byte 16) :
    exec (.pix x) (s.setBuffer v) = .next (t.setBuffer v) := by
  obtain rfl := exec_pix_inv h
  rw [← advance_setBuffer, ← plot_setBuffer]
  rfl

/-- The arguments of a command are in the instruction, and its meaning does not read the argument buffer again (R130). -/
theorem exec_commandInstr_setBuffer {c : Command} {a : Vector Byte 16} {s t : State}
    (h : exec (commandInstr c a) s = .next t) (v : Vector Byte 16) :
    exec (commandInstr c a) (s.setBuffer v) = .next (t.setBuffer v) := by
  cases c
  case caset | paset =>
    cases h
    cases hw : s.swap <;> simp [commandInstr, exec, execCaset, execPaset, hw] <;> rfl
  case pwctr2 | invctr | pwctr3 | pwctr4 | pwctr5 | disset5 | frmctr1 | frmctr2 | frmctr3 | gmctrp1 | gmctrn1 =>
    cases h
    exact congrArg Host.Outcome.next (reportUnhandled_setBuffer s v)
  all_goals
    cases h
    rfl

/-- A dispatch reads no entry of the argument buffer beyond its command's argument count (R26, R130). -/
theorem dispatch_setBuffer {s t : State} {v : Vector Byte 16} (h : dispatch s = .next t)
    (hv : AgreeBelow (opArgCount s.cfg.opcodeMap s.commandCode) s.commandBuf v) :
    dispatch (s.setBuffer v) = .next (t.setBuffer v) := by
  have hinstr := opcodeInstr_congr _ _ _ _ hv
  unfold dispatch at h ⊢
  simp only [State.setBuffer_cfg, State.setBuffer_commandCode, State.setBuffer_commandBuf, ← hinstr]
  unfold opcodeInstr at h ⊢
  cases hc : commandOf s.cfg.opcodeMap s.commandCode with
  | none => rw [hc] at h; cases h; rfl
  | some c => rw [hc] at h; exact exec_commandInstr_setBuffer h v

/-! ### Argument bytes, case by case -/

/-- A byte beyond the arguments is dropped (R107). -/
theorem acceptArgument_of_full {s : State} (b : Byte) (h : s.commandSize ≤ s.commandIndex) :
    acceptArgument b s = .next s := by
  simp [acceptArgument, exec, execArg, Nat.not_lt.mpr h]

/-- A byte that leaves arguments missing is stored (R105). -/
theorem acceptArgument_of_missing {s : State} (b : Byte) (h : s.commandIndex + 1 < s.commandSize) :
    acceptArgument b s = .next (s.pushArgument b) := by
  simp [acceptArgument, exec, execArg, Nat.lt_of_succ_lt h, h.ne]

/-- The last missing byte is stored and its command dispatched (R106). -/
theorem acceptArgument_of_last {s : State} (b : Byte) (h : s.commandIndex + 1 = s.commandSize) :
    acceptArgument b s = dispatch (s.pushArgument b) := by
  simp [acceptArgument, exec, execArg, ← h]

/-! ### Stale argument entries -/

/-- The relation of the two runs: the command fields in range, and another buffer that agrees on the entries accumulated
(R26, R32). -/
def StaleRelated (s₁ s₂ : State) : Prop :=
  s₁.CommandOk ∧ ∃ v, s₂ = s₁.setBuffer v ∧ AgreeBelow s₁.commandIndex s₁.commandBuf v

/-- It is the one the statement speaks of. -/
theorem staleRelated_iff {s₁ s₂ : State} : StaleRelated s₁ s₂ ↔ s₁.CommandOk ∧ SameButStale s₁ s₂ := by
  refine and_congr_right fun _ => ⟨?_, ?_⟩
  · rintro ⟨v, rfl, hv⟩
    exact ⟨rfl, fun i hlt => hv i i.isLt hlt⟩
  · rintro ⟨e, hv⟩
    exact ⟨s₂.commandBuf, e.symm, fun i hi hlt => hv ⟨i, hi⟩ hlt⟩

/-- An opcode byte accumulates nothing, so any two buffers are alike after it (R102). -/
theorem takeOpcode_staleRelated (s : State) (v : Vector Byte 16) (b : Byte) :
    StaleRelated (s.takeOpcode b) ((s.setBuffer v).takeOpcode b) :=
  ⟨takeOpcode_commandOk s b, v, takeOpcode_setBuffer s v b, fun i _ hlt => by simp at hlt⟩

/-- A missing argument byte is accumulated in both runs (R105). -/
theorem pushArgument_staleRelated {s₁ s₂ : State} (b : Byte) (h : StaleRelated s₁ s₂)
    (hlt : s₁.commandIndex < s₁.commandSize) : StaleRelated (s₁.pushArgument b) (s₂.pushArgument b) := by
  obtain ⟨hok, v, rfl, hv⟩ := h
  exact ⟨pushArgument_commandOk b hok hlt, _, rfl, hv.setIfInBounds b⟩

/-- A dispatch with every argument of its command accumulated keeps two runs related (R130). -/
theorem dispatch_simulates {s₁ s₂ t₁ : State} (h : StaleRelated s₁ s₂) (hd : dispatch s₁ = .next t₁)
    (hcount : opArgCount s₁.cfg.opcodeMap s₁.commandCode ≤ s₁.commandIndex) :
    ∃ t₂, dispatch s₂ = .next t₂ ∧ StaleRelated t₁ t₂ := by
  obtain ⟨hok, v, rfl, hv⟩ := h
  obtain ⟨-, -, -, -, hindex, hbuf, -⟩ := dispatch_frame hd
  refine ⟨_, dispatch_setBuffer hd fun i hi hlt => hv i hi (by omega), dispatch_keeps_commandOk hok hd, v, rfl, ?_⟩
  rwa [hindex, hbuf]

/-- An opcode byte dispatches only a command without arguments (R102). -/
theorem acceptOpcode_simulates (b : Byte) : Simulates StaleRelated (acceptOpcode b) := by
  rintro s₁ s₂ t₁ ⟨-, v, rfl, -⟩ h
  have htake := takeOpcode_staleRelated s₁ v b
  obtain ⟨h0, rfl⟩ | ⟨h0, hd⟩ := acceptOpcode_inv h
  · exact ⟨_, if_neg (by simpa using h0), htake⟩
  · rw [acceptOpcode, if_pos (by simpa using h0)]
    exact dispatch_simulates htake hd (by simp [h0])

/-- The byte that dispatches a command is the last of its arguments, by the range of the command fields (R105 to R107). -/
theorem acceptArgument_simulates (b : Byte) : Simulates StaleRelated (acceptArgument b) := by
  rintro s₁ _ t₁ ⟨hok, v, rfl, hv⟩ h
  have hrel : StaleRelated s₁ (s₁.setBuffer v) := ⟨hok, v, rfl, hv⟩
  obtain ⟨hfull, rfl⟩ | ⟨hlt, rfl⟩ | ⟨heq, hd⟩ := acceptArgument_inv h
  · exact ⟨_, acceptArgument_of_full b hfull, hrel⟩
  · exact ⟨_, acceptArgument_of_missing b hlt, pushArgument_staleRelated b hrel (by omega)⟩
  · rw [acceptArgument_of_last (s := s₁.setBuffer v) b heq]
    refine dispatch_simulates (pushArgument_staleRelated b hrel (by omega)) hd ?_
    obtain ⟨-, -, hsize⟩ := hok
    simp only [State.pushArgument_cfg, State.pushArgument_commandCode, State.pushArgument_commandIndex]
    omega

/-- A sample does not touch the argument buffer or `command_index` (R170). -/
theorem exec_pix_simulates (x : Word) : Simulates StaleRelated (exec (.pix x)) := by
  rintro s₁ s₂ t₁ ⟨hok, v, rfl, hv⟩ h
  refine ⟨_, exec_pix_setBuffer h v, exec_pix_keeps_commandOk hok h, v, rfl, ?_⟩
  obtain rfl := exec_pix_inv h
  simpa using hv

/-- With nothing accumulated any two buffers are alike (R110, R221). -/
theorem discardCommand_staleRelated (s : State) (v : Vector Byte 16) :
    StaleRelated s.discardCommand (s.setBuffer v).discardCommand :=
  ⟨discardCommand_commandOk s, v, rfl, fun _ _ hlt => absurd hlt (Nat.not_lt_zero _)⟩

theorem staleRelated_stepSimulation : StepSimulation StaleRelated where
  cfg := by rintro s _ ⟨-, v, rfl, -⟩; rfl
  mode := by rintro s _ ⟨-, v, rfl, -⟩; rfl
  ramWrite := by rintro s _ ⟨-, v, rfl, -⟩; rfl
  inbox := by rintro s _ ⟨-, v, rfl, -⟩; rfl
  setInbox := by rintro s _ l ⟨hok, v, rfl, hv⟩; exact ⟨hok, v, rfl, hv⟩
  clearLatch := by rintro s _ ⟨hok, v, rfl, hv⟩; exact ⟨hok, v, rfl, hv⟩
  setMode := by rintro s _ m ⟨hok, v, rfl, hv⟩; exact ⟨hok, v, rfl, hv⟩
  discardCommand := by rintro s _ ⟨-, v, rfl, -⟩; exact discardCommand_staleRelated s v
  chipReset := by rintro s _ ⟨-, v, rfl, -⟩; exact discardCommand_staleRelated s.fullPanel.clearLatch v
  opcode := acceptOpcode_simulates
  argument := acceptArgument_simulates
  pixel := exec_pix_simulates

/-- Settles O60: every part of a step keeps two runs alike but for stale entries, since what reads arguments is a dispatch with
every argument of its command accumulated. -/
theorem staleArgumentsAreNeverRead : Obligations.StaleArgumentsAreNeverRead := by
  intro s₁ s₂ t₁ t₂ hok hstale h₁ h₂
  obtain ⟨t, ht, hrel⟩ :=
    staleRelated_stepSimulation.step_simulates s₁ s₂ t₁ (staleRelated_iff.mpr ⟨hok, hstale⟩) h₁
  rw [h₂] at ht
  cases ht
  exact (staleRelated_iff.mp hrel).2

end Sys2Proof.Machine
end

section
/-! PROOFS. The points the mask passes: the square of side `2 * radius` that holds them, the two that can lie off the panel, and
where their pixels go (spec/42_pixel_pipeline.md R176, spec/20_memory.md R52, R55). -/

namespace Sys2Proof.Machine

/-! ### The mask's geometry -/

/-- The circle fits the panel in both directions (R9, D17). -/
theorem two_mul_radius_le (c : Config) : 2 * radius c ≤ c.width ∧ 2 * radius c ≤ c.height := by
  unfold radius
  omega

/-- The mask is the same along both axes (R176). -/
theorem inMask_swap (c : Config) (x y : Int) : inMask c (x, y) = true ↔ inMask c (y, x) = true := by
  rw [inMask_iff, inMask_iff, Int.add_comm]

/-- A point of the mask has its x between 0 and `2 * radius`: its distance on one axis is at most the radius (R176). -/
theorem inMask_fst_bounds {c : Config} {x y : Int} (h : inMask c (x, y) = true) : 0 ≤ x ∧ x ≤ 2 * radius c := by
  rw [inMask_iff] at h
  have hsq : (x - radius c) * (x - radius c) ≤ (radius c : Int) * radius c := by
    have := mul_self_nonneg (y - radius c)
    omega
  have habs := abs_le_of_sq_le_sq' (by simpa only [sq] using hsq) (Int.natCast_nonneg (radius c))
  omega

/-- A point of the mask has its y between 0 and `2 * radius` (R176). -/
theorem inMask_snd_bounds {c : Config} {x y : Int} (h : inMask c (x, y) = true) : 0 ≤ y ∧ y ≤ 2 * radius c :=
  inMask_fst_bounds ((inMask_swap c x y).mp h)

/-- The circle touches the right side of its square (R55, R176). -/
theorem inMask_right (c : Config) : inMask c (2 * radius c, radius c) = true := by
  rw [inMask_iff, show (2 * radius c - radius c : Int) = radius c by ring]
  simp

/-- It touches it in one point only: at full distance on the x axis none is left for the y axis (R55, R176). -/
theorem eq_of_inMask_right {c : Config} {x y : Int} (h : inMask c (x, y) = true) (hx : 2 * radius c ≤ x) :
    x = 2 * radius c ∧ y = radius c := by
  obtain rfl : x = 2 * radius c := le_antisymm (inMask_fst_bounds h).2 hx
  rw [inMask_iff, show (2 * radius c - radius c : Int) = radius c by ring] at h
  have hy : (y - radius c) * (y - radius c) = 0 := le_antisymm (by omega) (mul_self_nonneg _)
  exact ⟨rfl, Int.sub_eq_zero.mp (mul_self_eq_zero.mp hy)⟩

/-! ### Points off the panel -/

/-- A point right of the panel that passes the mask (R55). -/
theorem inMask_width_le {c : Config} {x y : Int} (h : inMask c (x, y) = true) (hx : (c.width : Int) ≤ x) :
    x = 2 * radius c ∧ y = radius c ∧ c.width = 2 * radius c := by
  obtain ⟨hr, -⟩ := two_mul_radius_le c
  obtain ⟨ex, ey⟩ := eq_of_inMask_right h (by omega)
  exact ⟨ex, ey, by omega⟩

/-- A point below the panel that passes the mask (R55). -/
theorem inMask_height_le {c : Config} {x y : Int} (h : inMask c (x, y) = true) (hy : (c.height : Int) ≤ y) :
    x = radius c ∧ y = 2 * radius c ∧ c.height = 2 * radius c := by
  obtain ⟨-, hr⟩ := two_mul_radius_le c
  obtain ⟨ey, ex⟩ := eq_of_inMask_right ((inMask_swap c x y).mp h) (by omega)
  exact ⟨ex, ey, by omega⟩

/-- A pixel that has a whole row after the start of its own lies inside the framebuffer (R50, R52). -/
theorem rowStart_add_pixelSize_le_fbSize {c : Config} {row : Nat} (hw : 1 ≤ c.width) (hrow : row < c.height) :
    ((row : Int) * c.width) * c.pixelSize + c.pixelSize ≤ fbSize c := by
  have hpixels : row * c.width + 1 ≤ c.width * c.height := by
    calc row * c.width + 1 ≤ (row + 1) * c.width := by rw [Nat.add_one_mul]; omega
      _ ≤ c.height * c.width := Nat.mul_le_mul_right _ hrow
      _ = c.width * c.height := Nat.mul_comm _ _
  have hbytes := Nat.mul_le_mul_right c.pixelSize hpixels
  rw [Nat.add_one_mul] at hbytes
  exact_mod_cast hbytes

/-- Settles O23: off the panel the mask reaches only the point where the circle touches its square, on the right or below; the
first is the start of row `radius + 1`, the second lies past the last row. -/
theorem onlyTwoMaskedPointsLieOffThePanel : Obligations.OnlyTwoMaskedPointsLieOffThePanel := by
  intro c hw _
  refine ⟨inMask_right c, (inMask_swap c _ _).mp (inMask_right c), fun x y h => ⟨fun hx => ?right, fun hy => ?below⟩⟩
  case right =>
    obtain ⟨rfl, rfl, hwidth⟩ := inMask_width_le h hx
    have hoff : pixelOffset c (2 * radius c, radius c) = ((radius c + 1) * c.width) * c.pixelSize := by
      have : (c.width : Int) = 2 * radius c := by exact_mod_cast hwidth
      simp only [pixelOffset, ← this]
      ring
    refine ⟨rfl, rfl, hwidth, hoff, fun hrow => ?_⟩
    rw [hoff]
    exact_mod_cast rowStart_add_pixelSize_le_fbSize hw hrow
  case below =>
    obtain ⟨rfl, rfl, hheight⟩ := inMask_height_le h hy
    have hoff : pixelOffset c (radius c, 2 * radius c) = (c.height * c.width + radius c) * c.pixelSize := by
      have : (c.height : Int) = 2 * radius c := by exact_mod_cast hheight
      simp only [pixelOffset, ← this]
    refine ⟨rfl, rfl, hheight, hoff, ?_⟩
    rw [hoff]
    have hpixels : c.width * c.height ≤ c.height * c.width + radius c := by
      rw [Nat.mul_comm]
      exact Nat.le_add_right _ _
    exact_mod_cast Nat.mul_le_mul_right c.pixelSize hpixels

end Sys2Proof.Machine
end

section
/-! PROOFS. The outputs of a step: what each part of it sends, the framebuffer as what those outputs do to it, and the obligations
on who writes the framebuffer, on what pixel buffers send, and on the framebuffer as the replay of the history
(spec/20_memory.md R51, R54, R55, R57, R61). -/

namespace Sys2Proof.Machine

/-! ### Sending one output -/

/-- An output reaches the sink and the history (R36, R51, R202): what `memWrite` and `report` have in common. -/
def State.send (s : State) (o : Output) : State :=
  { s with fb := applyOutput s.cfg s.fb o, outputs := s.outputs ++ [o] }

theorem State.report_eq_send (s : State) (op : Byte) : s.report op = s.send (.diag op) := rfl

theorem State.memWrite_eq_send (s : State) (off : Int) (v : List Byte) : s.memWrite off v = s.send (.memWrite off v) := rfl

/-! ### What was sent from one state to another -/

/-- On the way from `s` to `t` exactly the outputs `new` were sent, in order, and nothing else was done to the framebuffer. -/
structure Sent (s t : State) (new : List Output) : Prop where
  cfg : t.cfg = s.cfg
  outputs : t.outputs = s.outputs ++ new
  fb : t.fb = new.foldl (applyOutput s.cfg) s.fb

/-- A change to no parameter, no output and no framebuffer byte sends nothing. -/
theorem Sent.nothing {s t : State} (hcfg : t.cfg = s.cfg) (houtputs : t.outputs = s.outputs) (hfb : t.fb = s.fb) :
    Sent s t [] :=
  ⟨hcfg, by rw [houtputs, List.append_nil], hfb⟩

theorem Sent.send (s : State) (o : Output) : Sent s (s.send o) [o] := ⟨rfl, rfl, rfl⟩

/-- The events still to come are no output. -/
theorem Sent.of_setInbox {s t : State} {l : List Event} {new : List Output} (h : Sent (s.setInbox l) t new) :
    Sent s t new :=
  ⟨h.cfg, h.outputs, h.fb⟩

theorem Sent.trans {s u t : State} {new new' : List Output} (h : Sent s u new) (h' : Sent u t new') :
    Sent s t (new ++ new') where
  cfg := h'.cfg.trans h.cfg
  outputs := by rw [h'.outputs, h.outputs, List.append_assoc]
  fb := by rw [h'.fb, h.fb, h.cfg, List.foldl_append]

/-- Only diagnostics were sent. -/
def SentDiags (s t : State) : Prop := ∃ new, Sent s t new ∧ ∀ o ∈ new, o.IsDiag

theorem SentDiags.nothing {s t : State} (hcfg : t.cfg = s.cfg) (houtputs : t.outputs = s.outputs) (hfb : t.fb = s.fb) :
    SentDiags s t :=
  ⟨[], .nothing hcfg houtputs hfb, List.forall_mem_nil _⟩

theorem SentDiags.of_setInbox {s t : State} {l : List Event} (h : SentDiags (s.setInbox l) t) : SentDiags s t := by
  obtain ⟨new, hs, hd⟩ := h
  exact ⟨new, hs.of_setInbox, hd⟩

theorem SentDiags.trans {s u t : State} (h : SentDiags s u) (h' : SentDiags u t) : SentDiags s t := by
  obtain ⟨new, hs, hd⟩ := h
  obtain ⟨new', hs', hd'⟩ := h'
  exact ⟨new ++ new', hs.trans hs', List.forall_mem_append.mpr ⟨hd, hd'⟩⟩

theorem SentDiags.report (s : State) (op : Byte) : SentDiags s (s.report op) :=
  ⟨[.diag op], Sent.send s (.diag op), by simp [Output.IsDiag]⟩

theorem SentDiags.reportUnhandled (s : State) : SentDiags s s.reportUnhandled := by
  unfold State.reportUnhandled
  split
  · exact .report s s.commandCode
  · exact .nothing rfl rfl rfl

/-! ### What each part of a step sends -/

/-- A dispatch sends at most a diagnostic (R130, R202). -/
theorem dispatch_sentDiags {s t : State} (h : dispatch s = .next t) : SentDiags s t := by
  rcases dispatch_inv h with rfl | rfl | rfl | ⟨-, rfl⟩ | ⟨-, x, y, z, rfl⟩ | ⟨-, ⟨x, y, rfl⟩ | ⟨x, y, rfl⟩⟩
  pick_goal 2
  · exact .reportUnhandled s
  pick_goal 2
  · exact .report s s.commandCode
  all_goals exact .nothing rfl rfl rfl

/-- An opcode byte sends what its dispatch sends, if it has one (R102). -/
theorem acceptOpcode_sentDiags {b : Byte} {s t : State} (h : acceptOpcode b s = .next t) : SentDiags s t := by
  have htake : SentDiags s (s.takeOpcode b) := .nothing (by simp) (by simp) (by simp)
  obtain ⟨-, rfl⟩ | ⟨-, hd⟩ := acceptOpcode_inv h
  · exact htake
  · exact htake.trans (dispatch_sentDiags hd)

/-- An argument byte sends what its dispatch sends, if it has one (R105). -/
theorem acceptArgument_sentDiags {b : Byte} {s t : State} (h : acceptArgument b s = .next t) : SentDiags s t := by
  have hpush : SentDiags s (s.pushArgument b) := .nothing rfl rfl rfl
  obtain ⟨-, rfl⟩ | ⟨-, rfl⟩ | ⟨-, hd⟩ := acceptArgument_inv h
  · exact .nothing rfl rfl rfl
  · exact hpush
  · exact hpush.trans (dispatch_sentDiags hd)

/-- Handling a list of inputs sends only diagnostics if handling each one does. -/
theorem runEach_sentDiags {α : Type} {f : α → State → Result} (hf : ∀ a s t, f a s = .next t → SentDiags s t)
    {as : List α} {s t : State} (h : runEach f as s = .next t) : SentDiags s t :=
  runEach_relates SentDiags (fun _ => .nothing rfl rfl rfl) (fun _ _ _ => SentDiags.trans) hf as s t h

/-- A COMMAND buffer sends only diagnostics (R102). -/
theorem commandStream_sentDiags {buf : List Byte} {s t : State} (h : commandStream buf s = .next t) : SentDiags s t := by
  obtain ⟨-, h⟩ | ⟨-, h⟩ := commandStream_inv h
  · exact SentDiags.trans (u := s.clearLatch) (.nothing rfl rfl rfl)
      (runEach_sentDiags (fun _ _ _ => acceptOpcode_sentDiags) h)
  · exact runEach_sentDiags (fun _ _ _ => acceptOpcode_sentDiags) h

/-- An argument buffer sends only diagnostics (R105). -/
theorem argumentStream_sentDiags {buf : List Byte} {s t : State} (h : argumentStream buf s = .next t) : SentDiags s t :=
  runEach_sentDiags (fun _ _ _ => acceptArgument_sentDiags) h

/-- A pixel that the mask passes is one whole pixel at a multiple of its size (R54, R57, R176). -/
theorem wholePixel_of_inMask {c : Config} {p : Int × Int} (hp : inMask c p = true) (v : Word) :
    Output.WholePixel c (.memWrite (pixelOffset c p) (pixelBytes c (pixelOffset c p) v)) := by
  obtain ⟨hx, -⟩ := inMask_fst_bounds hp
  obtain ⟨hy, -⟩ := inMask_snd_bounds hp
  exact ⟨pixelBytes_length c _ v, Int.mul_emod_left _ _, by unfold pixelOffset; positivity⟩

/-- Plotting a pixel sends at most one output, a whole-pixel write, and the mask decides whether it does (R177). -/
theorem plot_sent (s : State) (v : Word) :
    ∃ new, Sent s (s.plot v) new ∧ new.length ≤ 1 ∧ ∀ o ∈ new, o.WholePixel s.cfg ∧ ¬ o.IsDiag := by
  unfold State.plot
  split
  · next hp =>
    rw [State.memWrite_eq_send]
    exact ⟨_, .send s _, le_rfl, List.forall_mem_singleton.mpr ⟨wholePixel_of_inMask hp v, id⟩⟩
  · exact ⟨[], .nothing rfl rfl rfl, Nat.zero_le 1, List.forall_mem_nil _⟩

/-- A sample sends what plotting its pixel sends (R170, R181). -/
theorem exec_pix_sent {v : Word} {s t : State} (h : exec (.pix v) s = .next t) :
    ∃ new, Sent s t new ∧ new.length ≤ 1 ∧ ∀ o ∈ new, o.WholePixel s.cfg ∧ ¬ o.IsDiag := by
  obtain rfl := exec_pix_inv h
  obtain ⟨new, hsent, hnew⟩ := plot_sent s v
  have hadvance : Sent (s.plot v) (s.plot v).advance [] := .nothing (by simp) (by simp) (by simp)
  exact ⟨new, by simpa using hsent.trans hadvance, hnew⟩

/-- Samples send at most one output each, whole-pixel writes (R104, R177). -/
theorem runEach_pix_sent {vs : List Word} {s t : State} (h : runEach (fun v => exec (.pix v)) vs s = .next t) :
    ∃ new, Sent s t new ∧ new.length ≤ vs.length ∧ ∀ o ∈ new, o.WholePixel s.cfg ∧ ¬ o.IsDiag := by
  induction vs generalizing s with
  | nil => cases h; exact ⟨[], .nothing rfl rfl rfl, le_rfl, List.forall_mem_nil _⟩
  | cons v vs ih =>
    obtain ⟨u, hu, hrest⟩ := andThen_eq_next h
    obtain ⟨new, hsent, hlen, hnew⟩ := exec_pix_sent hu
    obtain ⟨new', hsent', hlen', hnew'⟩ := ih hrest
    rw [hsent.cfg] at hnew'
    refine ⟨new ++ new', hsent.trans hsent', ?_, List.forall_mem_append.mpr ⟨hnew, hnew'⟩⟩
    rw [List.length_append, List.length_cons]
    omega

/-- A pixel buffer sends at most one whole-pixel write for every two bytes (R83, R104). -/
theorem pixelStream_sent {buf : List Byte} {s t : State} (h : pixelStream buf s = .next t) :
    ∃ new, Sent s t new ∧ new.length ≤ buf.length / 2 ∧ ∀ o ∈ new, o.WholePixel s.cfg ∧ ¬ o.IsDiag := by
  rw [← samplesOf_length s.cfg.sampleOrder buf]
  exact runEach_pix_sent h

/-! ### The framebuffer as the replay of the history -/

/-- Every offset that storing a byte lists is the byte's or was listed before. -/
theorem Memory.mem_write {m : Memory} {a : Nat} {b : Byte} {cell : Host.Cell} (h : cell ∈ m.write a b) :
    cell.1 = a ∨ cell ∈ m := by
  induction m with
  | nil => exact .inl (by rw [List.mem_singleton.mp h])
  | cons head m ih =>
    obtain ⟨a', b'⟩ := head
    rw [Memory.write] at h
    split at h
    · exact (List.mem_cons.mp h).imp_left (fun e => by rw [e])
    · split at h
      · exact (List.mem_cons.mp h).imp (fun e => by rw [e]) (List.mem_cons_of_mem _)
      · obtain rfl | h := List.mem_cons.mp h
        · exact .inr List.mem_cons_self
        · exact (ih h).imp_right (List.mem_cons_of_mem _)

/-- Every offset that storing consecutive bytes lists is one of theirs or was listed before. -/
theorem Memory.mem_writeBytes {bs : List Byte} {m : Memory} {a : Nat} {cell : Host.Cell}
    (h : cell ∈ m.writeBytes a bs) : cell.1 < a + bs.length ∨ cell ∈ m := by
  induction bs generalizing m a with
  | nil => exact .inr h
  | cons b bs ih =>
    rw [List.length_cons]
    obtain hlt | hmem := ih h
    · exact .inl (by omega)
    · exact (Memory.mem_write hmem).imp_left (fun e => by omega)

/-- A memory in canonical form that lists only offsets of the framebuffer (R50). -/
def Memory.FitsPanel (c : Config) (m : Memory) : Prop := m.wf = true ∧ ∀ cell ∈ m, cell.1 < fbSize c

/-- The sink stores inside the framebuffer only (R55). -/
theorem sinkStore_fitsPanel {c : Config} {m : Memory} (off : Int) (v : List Byte) (hm : m.FitsPanel c) :
    (sinkStore c off v m).FitsPanel c := by
  obtain ⟨hwf, hlt⟩ := hm
  refine ⟨sinkStore_wf c off v hwf, fun cell hcell => ?_⟩
  obtain ⟨h0, hend, e⟩ | ⟨-, e⟩ := sinkStore_cases c off v m
  · rw [e] at hcell
    obtain hin | hmem := Memory.mem_writeBytes hcell
    · omega
    · exact hlt cell hmem
  · exact hlt cell (e ▸ hcell)

/-- Outputs leave the framebuffer in canonical form and inside its offsets (R50, R55, R202). -/
theorem foldl_applyOutput_fitsPanel {c : Config} {m : Memory} (new : List Output) (hm : m.FitsPanel c) :
    (new.foldl (applyOutput c) m).FitsPanel c := by
  induction new generalizing m with
  | nil => exact hm
  | cons o new ih =>
    cases o with
    | memWrite off v => exact ih (sinkStore_fitsPanel off v hm)
    | diag op => exact ih hm

/-- Diagnostics leave the framebuffer as it is (R202). -/
theorem foldl_applyOutput_of_isDiag {c : Config} {m : Memory} {new : List Output} (h : ∀ o ∈ new, o.IsDiag) :
    new.foldl (applyOutput c) m = m := by
  induction new with
  | nil => rfl
  | cons o new ih =>
    obtain ⟨ho, hnew⟩ := List.forall_mem_cons.mp h
    cases o with
    | memWrite off v => exact ho.elim
    | diag op => exact ih hnew

/-- The replay of a longer history is the rest of it applied to the replay of its start (R51). -/
theorem replay_append (c : Config) (outs new : List Output) :
    replay c (outs ++ new) = new.foldl (applyOutput c) (replay c outs) :=
  List.foldl_append

/-- The framebuffer stays the replay of the history when what is done to it is what is sent (R51). -/
theorem Sent.framebufferOk {s t : State} {new : List Output} (h : Sent s t new) (hs : s.FramebufferOk) :
    t.FramebufferOk := by
  obtain ⟨hcfg, houtputs, hfb⟩ := h
  obtain ⟨hwf, hlt, hreplay⟩ := hs
  have hfits : (new.foldl (applyOutput s.cfg) s.fb).FitsPanel s.cfg := foldl_applyOutput_fitsPanel new ⟨hwf, hlt⟩
  rw [← hfb, ← hcfg] at hfits
  obtain ⟨hwf', hlt'⟩ := hfits
  refine ⟨hwf', hlt', ?_⟩
  rw [hfb, hcfg, houtputs, replay_append, ← hreplay]

/-! ### The obligations -/

/-- A step that read no buffer of pixels sent only diagnostics (R61). -/
theorem step_sentDiags {s t : State} (h : step s = .next t) (hno : ¬ s.PixelsNext) : SentDiags s t := by
  cases step_inv h with
  | opcodes _ _ hb => exact (commandStream_sentDiags hb).of_setInbox
  | arguments _ _ _ hb => exact (argumentStream_sentDiags hb).of_setInbox
  | @pixels buf _ _ hm hw hin hb =>
    cases buf with
    | nil => cases hb; exact .nothing rfl rfl rfl
    | cons b bs => exact absurd ⟨hm, hw, _, _, _, hin⟩ hno
  | _ => exact .nothing rfl rfl rfl

/-- A step over a pixel buffer sends at most one whole-pixel write a sample (R104). -/
theorem step_pixels_sent {s t : State} {buf : List Byte} {rest : List Event} (hm : s.mode = .data)
    (hw : s.ramWrite = true) (hin : s.inbox = .bytes buf :: rest) (h : step s = .next t) :
    ∃ new, Sent s t new ∧ new.length ≤ buf.length / 2 ∧ ∀ o ∈ new, o.WholePixel s.cfg ∧ ¬ o.IsDiag := by
  rw [step_pixels hin hm hw] at h
  obtain ⟨new, hsent, hnew⟩ := pixelStream_sent h
  exact ⟨new, hsent.of_setInbox, hnew⟩

/-- Whatever a step does to the framebuffer it sends (R36, R51). -/
theorem step_sent {s t : State} (h : step s = .next t) : ∃ new, Sent s t new := by
  by_cases hp : s.PixelsNext
  · obtain ⟨hm, hw, b, bs, rest, hin⟩ := hp
    obtain ⟨new, hsent, -⟩ := step_pixels_sent hm hw hin h
    exact ⟨new, hsent⟩
  · obtain ⟨new, hsent, -⟩ := step_sentDiags h hp
    exact ⟨new, hsent⟩

/-- Settles O58: a step does to the framebuffer what the outputs it sends do, which is what the longer replay does. -/
theorem stepKeepsTheFramebufferTheReplay : Obligations.StepKeepsTheFramebufferTheReplay := by
  intro s t hs h
  obtain ⟨new, hsent⟩ := step_sent h
  exact hsent.framebufferOk hs

/-- Settles O53: without a buffer of pixels a step sends only diagnostics, which do nothing to the framebuffer. -/
theorem framebufferWrittenOnlyByPixels : Obligations.FramebufferWrittenOnlyByPixels := by
  intro s t h hno
  obtain ⟨new, hsent, hdiag⟩ := step_sentDiags h hno
  exact ⟨hsent.fb.trans (foldl_applyOutput_of_isDiag hdiag), new, hsent.outputs, hdiag⟩

/-- Settles O54: each sample sends at most one output, the whole-pixel write of a point in the mask. -/
theorem pixelBuffersSendWholePixels : Obligations.PixelBuffersSendWholePixels := by
  intro s t buf rest hm hw hin h
  obtain ⟨new, hsent, hlen, hnew⟩ := step_pixels_sent hm hw hin h
  exact ⟨new, hsent.outputs, hlen, hnew⟩

end Sys2Proof.Machine
end

section
/-! PROOFS. Two runs of a step from states that differ in the outputs alone: the relation between their states, that every update
of the model keeps it, and the obligation that the framebuffer and the history are never read (spec/20_memory.md R60, R61,
spec/60_exceptions.md R202). -/

namespace Sys2Proof.Machine

/-! ### The relation -/

/-- Two runs that began with the histories `a` and `b`: their states differ at most in the outputs, and both have sent the same
outputs since (R61, R202). -/
def SentAlike (a b : List Output) (s₁ s₂ : State) : Prop :=
  s₁.withoutOutputs = s₂.withoutOutputs ∧ ∃ new, s₁.outputs = a ++ new ∧ s₂.outputs = b ++ new

section
variable {a b : List Output} {s₁ s₂ : State}

/-- The two states agree on whatever is computed without the outputs. -/
theorem SentAlike.congr {α : Type} (g : State → α) (h : SentAlike a b s₁ s₂)
    (hg : ∀ s, g s = g s.withoutOutputs := by exact fun _ => rfl) : g s₁ = g s₂ := by
  rw [hg s₁, hg s₂, h.1]

/-- An update that neither reads nor writes the outputs keeps two runs alike. -/
theorem SentAlike.update {f : State → State} (h : SentAlike a b s₁ s₂)
    (hf : ∀ s, (f s).withoutOutputs = f s.withoutOutputs := by exact fun _ => rfl)
    (houtputs : ∀ s, (f s).outputs = s.outputs := by exact fun _ => rfl) : SentAlike a b (f s₁) (f s₂) := by
  obtain ⟨hs, new, h₁, h₂⟩ := h
  exact ⟨by rw [hf, hf, hs], new, by rw [houtputs, h₁], by rw [houtputs, h₂]⟩

/-- Sending the same output keeps two runs alike. -/
theorem SentAlike.send (h : SentAlike a b s₁ s₂) (o : Output) : SentAlike a b (s₁.send o) (s₂.send o) := by
  obtain ⟨hs, new, h₁, h₂⟩ := h
  exact ⟨hs, new ++ [o], by simp [State.send, h₁], by simp [State.send, h₂]⟩

/-! ### The updates -/

theorem SentAlike.report_commandCode (h : SentAlike a b s₁ s₂) :
    SentAlike a b (s₁.report s₁.commandCode) (s₂.report s₂.commandCode) := by
  rw [h.congr State.commandCode]
  exact h.send _

theorem SentAlike.reportUnhandled (h : SentAlike a b s₁ s₂) : SentAlike a b s₁.reportUnhandled s₂.reportUnhandled := by
  unfold State.reportUnhandled
  rw [h.congr State.cfg]
  split
  · exact h.report_commandCode
  · exact h

theorem SentAlike.plot (v : Word) (h : SentAlike a b s₁ s₂) : SentAlike a b (s₁.plot v) (s₂.plot v) := by
  unfold State.plot
  rw [h.congr State.cfg, h.congr State.cursorPoint]
  split
  · exact h.send _
  · exact h

theorem SentAlike.pushArgument (x : Byte) (h : SentAlike a b s₁ s₂) :
    SentAlike a b (s₁.pushArgument x) (s₂.pushArgument x) :=
  h.update (f := fun s => s.pushArgument x)

theorem SentAlike.setColumnWindow (x y : Word) (h : SentAlike a b s₁ s₂) :
    SentAlike a b (s₁.setColumnWindow x y) (s₂.setColumnWindow x y) :=
  h.update (f := fun s => s.setColumnWindow x y)

theorem SentAlike.setPageWindow (x y : Word) (h : SentAlike a b s₁ s₂) :
    SentAlike a b (s₁.setPageWindow x y) (s₂.setPageWindow x y) :=
  h.update (f := fun s => s.setPageWindow x y)

/-- Both runs take the same branch on the orientation (R146, R147). -/
theorem SentAlike.ite_swap {u₁ u₂ v₁ v₂ : State} (h : SentAlike a b s₁ s₂) (hu : SentAlike a b u₁ u₂)
    (hv : SentAlike a b v₁ v₂) : SentAlike a b (if s₁.swap then u₁ else v₁) (if s₂.swap then u₂ else v₂) := by
  rw [h.congr State.swap]
  split
  · exact hu
  · exact hv

theorem advance_withoutOutputs (s : State) : s.advance.withoutOutputs = s.withoutOutputs.advance := by
  cases hw : s.swap with
  | false => rw [s.advance_cursor_of_not_swap hw, s.withoutOutputs.advance_cursor_of_not_swap hw]; rfl
  | true => rw [s.advance_cursor_of_swap hw, s.withoutOutputs.advance_cursor_of_swap hw]; rfl

theorem SentAlike.advance (h : SentAlike a b s₁ s₂) : SentAlike a b s₁.advance s₂.advance :=
  h.update advance_withoutOutputs fun _ => by simp

theorem takeOpcode_withoutOutputs (op : Byte) (s : State) :
    (s.takeOpcode op).withoutOutputs = s.withoutOutputs.takeOpcode op := by
  unfold State.takeOpcode
  rw [show s.withoutOutputs.cfg = s.cfg from rfl]
  split <;> rfl

theorem SentAlike.takeOpcode (op : Byte) (h : SentAlike a b s₁ s₂) :
    SentAlike a b (s₁.takeOpcode op) (s₂.takeOpcode op) :=
  h.update (takeOpcode_withoutOutputs op) fun _ => by simp

/-! ### What each part of a step does to two runs -/

/-- No meaning reads the outputs, and each sends the same in both runs. -/
theorem exec_sentAlike (i : Instr) : Simulates (SentAlike a b) (exec i) := by
  intro s₁ s₂ t₁ h h₁
  cases i
  case pwctr2 | invctr | pwctr3 | pwctr4 | pwctr5 | disset5 | frmctr1 | frmctr2 | frmctr3 | gmctrp1 | gmctrn1 =>
    cases h₁
    exact ⟨_, rfl, h.reportUnhandled⟩
  case unknown => cases h₁; exact ⟨_, rfl, h.report_commandCode⟩
  case ramwr => cases h₁; exact ⟨_, rfl, h.update (f := State.setLatch)⟩
  case madctl x => cases h₁; exact ⟨_, rfl, h.update (f := fun s => s.setOrientationFrom x)⟩
  case caset x y =>
    cases h₁
    exact ⟨_, rfl, h.ite_swap (h.setPageWindow x y) (h.setColumnWindow x y)⟩
  case paset x y =>
    cases h₁
    exact ⟨_, rfl, h.ite_swap (h.setColumnWindow x y) (h.setPageWindow x y)⟩
  case arg x =>
    cases h₁
    refine ⟨_, rfl, ?_⟩
    rw [h.congr State.commandIndex, h.congr State.commandSize]
    split
    · exact h.pushArgument x
    · exact h
  case pix v => cases h₁; exact ⟨_, rfl, (h.plot v).advance⟩
  all_goals
    cases h₁
    exact ⟨_, rfl, h⟩

theorem dispatch_sentAlike : Simulates (SentAlike a b) dispatch := by
  intro s₁ s₂ t₁ h h₁
  unfold dispatch at h₁ ⊢
  rw [← h.congr State.cfg, ← h.congr State.commandCode, ← h.congr State.commandBuf]
  exact exec_sentAlike _ s₁ s₂ t₁ h h₁

theorem acceptOpcode_sentAlike (op : Byte) : Simulates (SentAlike a b) (acceptOpcode op) := by
  intro s₁ s₂ t₁ h h₁
  have htake := h.takeOpcode op
  unfold acceptOpcode at h₁ ⊢
  rw [← htake.congr State.commandSize]
  by_cases h0 : (s₁.takeOpcode op).commandSize = 0
  · rw [if_pos h0] at h₁ ⊢
    exact dispatch_sentAlike _ _ t₁ htake h₁
  · rw [if_neg h0] at h₁ ⊢
    cases h₁
    exact ⟨_, rfl, htake⟩

theorem acceptArgument_sentAlike (x : Byte) : Simulates (SentAlike a b) (acceptArgument x) := by
  intro s₁ s₂ t₁ h h₁
  have hindex := h.congr State.commandIndex
  have hsize := h.congr State.commandSize
  obtain ⟨hfull, rfl⟩ | ⟨hlt, rfl⟩ | ⟨heq, hd⟩ := acceptArgument_inv h₁
  · exact ⟨s₂, acceptArgument_of_full x (by omega), h⟩
  · exact ⟨_, acceptArgument_of_missing x (by omega), h.pushArgument x⟩
  · rw [acceptArgument_of_last x (by omega)]
    exact dispatch_sentAlike _ _ t₁ (h.pushArgument x) hd

end

theorem sentAlike_stepSimulation (a b : List Output) : StepSimulation (SentAlike a b) where
  cfg h := h.congr State.cfg
  mode h := h.congr State.mode
  ramWrite h := h.congr State.ramWrite
  inbox h := h.congr State.inbox
  setInbox l h := h.update (f := fun s => s.setInbox l)
  clearLatch h := h.update (f := State.clearLatch)
  setMode m h := h.update (f := fun s => s.setMode m)
  discardCommand h := h.update (f := State.discardCommand)
  chipReset h := h.update (f := State.chipReset)
  opcode := acceptOpcode_sentAlike
  argument := acceptArgument_sentAlike
  pixel v := exec_sentAlike (.pix v)

/-- Settles O59: two runs that have sent nothing yet are alike, and every part of a step keeps them so. -/
theorem outputsAreNeverRead : Obligations.OutputsAreNeverRead := by
  intro s₁ s₂ t₁ t₂ h h₁ h₂
  have hstart : SentAlike s₁.outputs s₂.outputs s₁ s₂ := ⟨h, [], by simp, by simp⟩
  obtain ⟨t, ht, halike⟩ := (sentAlike_stepSimulation _ _).step_simulates s₁ s₂ t₁ hstart h₁
  rw [h₂] at ht
  cases ht
  exact halike

end Sys2Proof.Machine
end

section
/-! PROOFS. The encoding (spec/30_encoding.md): every command frame as a named command with its arguments, the two round trips of
decoder and encoder, and what an opcode byte and the Command Table say under an injective map. -/

namespace Sys2Proof

/-! ### The opcode byte -/

/-- The byte the map gives a command has the command's argument count (R75). -/
theorem opArgCount_byte {m : OpcodeMap} (h : m.Injective) (c : Command) : opArgCount m (m.byte c) = argCount c :=
  Machine.opArgCount_of_commandOf (commandOf_byte h c)

/-- The byte the map gives a command stands for that command (R76). -/
theorem opcodeInstr_byte {m : OpcodeMap} (h : m.Injective) (c : Command) (a : Vector Byte 16) :
    opcodeInstr m (m.byte c) a = commandInstr c a := by
  simp [opcodeInstr, commandOf_byte h]

/-- A byte that names no command is `UNKNOWN`, without arguments (R77, R75). -/
theorem opcodeInstr_of_unnamed {m : OpcodeMap} {b : Byte} (h : commandOf m b = none) (a : Vector Byte 16) :
    opcodeInstr m b a = .unknown b ∧ opArgCount m b = 0 := by
  simp [opcodeInstr, opArgCount, h]

/-! ### A command with its arguments -/

@[simp] theorem frameKind_commandInstr (c : Command) (a : Vector Byte 16) : frameKind (commandInstr c a) = .command := by
  cases c <;> rfl

/-- Every argument value is accepted (R86). -/
@[simp] theorem commandInstr_wf (m : OpcodeMap) (c : Command) (a : Vector Byte 16) : (commandInstr c a).wf m = true := by
  cases c <;> rfl

/-- A command's bytes are its opcode and as many arguments as its count, from index 0 (R71, R75). -/
theorem encode_commandInstr (cfg : Config) (c : Command) (a : Vector Byte 16) :
    encode cfg (commandInstr c a) = cfg.opcodeMap.byte c :: a.toList.take (argCount c) := by
  have hall : a.toList.take 16 = a.toList := List.take_of_length_le (by simp)
  cases c
  case gmctrp1 => exact congrArg _ hall.symm
  case gmctrn1 => exact congrArg _ hall.symm
  all_goals simp [commandInstr, encode, OpcodeMap.byte, argCount, List.take_add_one]

/-- Every instruction of a command frame is `UNKNOWN` or a named command with arguments. -/
theorem eq_unknown_or_commandInstr {i : Instr} (h : frameKind i = .command) :
    (∃ op, i = .unknown op) ∨ ∃ c a, i = commandInstr c a := by
  cases i
  case unknown op => exact .inl ⟨op, rfl⟩
  case arg => cases h
  case pix => cases h
  all_goals refine .inr ?_
  case nop => exact ⟨.nop, argBuffer [], rfl⟩
  case swreset => exact ⟨.swreset, argBuffer [], rfl⟩
  case slpin => exact ⟨.slpin, argBuffer [], rfl⟩
  case slpout => exact ⟨.slpout, argBuffer [], rfl⟩
  case invoff => exact ⟨.invoff, argBuffer [], rfl⟩
  case invon => exact ⟨.invon, argBuffer [], rfl⟩
  case dispoff => exact ⟨.dispoff, argBuffer [], rfl⟩
  case dispon => exact ⟨.dispon, argBuffer [], rfl⟩
  case caset x y => exact ⟨.caset, argBuffer [hiByte x, loByte x, hiByte y, loByte y], by simp [commandInstr, argBuffer]⟩
  case paset x y => exact ⟨.paset, argBuffer [hiByte x, loByte x, hiByte y, loByte y], by simp [commandInstr, argBuffer]⟩
  case ramwr => exact ⟨.ramwr, argBuffer [], rfl⟩
  case madctl a => exact ⟨.madctl, argBuffer [a], by simp [commandInstr, argBuffer]⟩
  case colmod a => exact ⟨.colmod, argBuffer [a], by simp [commandInstr, argBuffer]⟩
  case frmctr1 a b c => exact ⟨.frmctr1, argBuffer [a, b, c], by simp [commandInstr, argBuffer]⟩
  case frmctr2 a b c => exact ⟨.frmctr2, argBuffer [a, b, c], by simp [commandInstr, argBuffer]⟩
  case frmctr3 a b c d e f => exact ⟨.frmctr3, argBuffer [a, b, c, d, e, f], by simp [commandInstr, argBuffer]⟩
  case invctr a => exact ⟨.invctr, argBuffer [a], by simp [commandInstr, argBuffer]⟩
  case disset5 a b => exact ⟨.disset5, argBuffer [a, b], by simp [commandInstr, argBuffer]⟩
  case pwctr1 a b c => exact ⟨.pwctr1, argBuffer [a, b, c], by simp [commandInstr, argBuffer]⟩
  case pwctr2 a => exact ⟨.pwctr2, argBuffer [a], by simp [commandInstr, argBuffer]⟩
  case pwctr3 a b => exact ⟨.pwctr3, argBuffer [a, b], by simp [commandInstr, argBuffer]⟩
  case pwctr4 a b => exact ⟨.pwctr4, argBuffer [a, b], by simp [commandInstr, argBuffer]⟩
  case pwctr5 a b => exact ⟨.pwctr5, argBuffer [a, b], by simp [commandInstr, argBuffer]⟩
  case vmctr1 a => exact ⟨.vmctr1, argBuffer [a], by simp [commandInstr, argBuffer]⟩
  case gmctrp1 a => exact ⟨.gmctrp1, a, rfl⟩
  case gmctrn1 a => exact ⟨.gmctrn1, a, rfl⟩

/-! ### A filled argument buffer -/

/-- The bytes an argument buffer was filled from are its first ones. -/
theorem argBuffer_toList_take {l : List Byte} (h : l.length ≤ 16) : (argBuffer l).toList.take l.length = l := by
  apply List.ext_getElem
  · simpa using h
  · intro k hk hl
    rw [List.getElem_take, Vector.getElem_toList, argBuffer_getElem, List.getD_eq_getElem]

/-- A buffer filled from the first `n` arguments of another has the same first `n` arguments. -/
theorem argBuffer_take_getElem (a : Vector Byte 16) {n k : Nat} (hk : k < 16) (hn : k < n) :
    (argBuffer (a.toList.take n))[k] = a[k] := by
  rw [argBuffer_getElem, List.getD_eq_getElem _ _ (by simp; omega), List.getElem_take, Vector.getElem_toList]

/-! ### The round trips -/

/-- What the decoder reads from the bytes of a command frame (R71): the opcode, its arguments, and what is left over. -/
theorem decode_command {cfg : Config} {op : Byte} {args rest : List Byte} {i : Instr} :
    decode cfg .command (op :: args) = .ok (i, rest) ↔ opArgCount cfg.opcodeMap op ≤ args.length ∧
      opcodeInstr cfg.opcodeMap op (argBuffer (args.take (opArgCount cfg.opcodeMap op))) = i ∧
      args.drop (opArgCount cfg.opcodeMap op) = rest := by
  by_cases h : args.length < opArgCount cfg.opcodeMap op
  · simp [decode, h]
  · simp [decode, h, Nat.not_lt.mp h]

/-- An `UNKNOWN` decodes back from its opcode byte, which the map does not name (R77). -/
theorem decode_encode_unknown {cfg : Config} {op : Byte} (h : commandOf cfg.opcodeMap op = none) (rest : List Byte) :
    decode cfg .command (encode cfg (.unknown op) ++ rest) = .ok (.unknown op, rest) := by
  obtain ⟨hi, h0⟩ := opcodeInstr_of_unnamed h (argBuffer (rest.take 0))
  exact decode_command.mpr ⟨by omega, by rw [h0]; exact hi, by rw [h0]; rfl⟩

/-- A named command decodes back from its opcode byte and arguments under an injective map (R71, R76). -/
theorem decode_encode_commandInstr {cfg : Config} (h : cfg.opcodeMap.Injective) (c : Command) (a : Vector Byte 16)
    (rest : List Byte) :
    decode cfg .command (encode cfg (commandInstr c a) ++ rest) = .ok (commandInstr c a, rest) := by
  have hlen : (a.toList.take (argCount c)).length = argCount c := by
    simpa using Machine.argCount_le c
  rw [encode_commandInstr, List.cons_append, decode_command, opArgCount_byte h, opcodeInstr_byte h]
  refine ⟨by rw [List.length_append]; omega, ?_, List.drop_left' hlen⟩
  rw [List.take_left' hlen]
  exact Machine.commandInstr_congr c _ _ fun k hk hn => argBuffer_take_getElem a hk hn

/-- Settles O1: a command is `UNKNOWN` or a named command with its arguments, each of which decodes back; a sample's two bytes
give it back in either order. -/
theorem encodedInstructionsDecodeBack : Obligations.EncodedInstructionsDecodeBack := by
  intro cfg i rest hinj hwf
  cases hk : frameKind i with
  | command =>
    obtain ⟨op, rfl⟩ | ⟨c, a, rfl⟩ := eq_unknown_or_commandInstr hk
    · exact decode_encode_unknown (commandOf_eq_none.mpr (by simpa [Instr.wf] using hwf)) rest
    · exact decode_encode_commandInstr hinj c a rest
  | argument =>
    cases i <;> cases hk
    rfl
  | pixel =>
    cases i <;> cases hk
    case pix.refl v =>
    obtain ⟨b0, b1, hb, hv⟩ := sampleBytes_eq cfg.sampleOrder v
    simp [encode, hb, decode, hv]

/-- A whole command frame is the bytes of the well-formed instruction it stands for (R71, R77). -/
theorem encode_opcodeInstr {cfg : Config} {op : Byte} {args : List Byte}
    (hlen : args.length = opArgCount cfg.opcodeMap op) :
    encode cfg (opcodeInstr cfg.opcodeMap op (argBuffer args)) = op :: args ∧
      frameKind (opcodeInstr cfg.opcodeMap op (argBuffer args)) = .command ∧
      (opcodeInstr cfg.opcodeMap op (argBuffer args)).wf cfg.opcodeMap = true := by
  cases hc : commandOf cfg.opcodeMap op with
  | none =>
    obtain ⟨hi, h0⟩ := opcodeInstr_of_unnamed hc (argBuffer args)
    rw [hi, List.eq_nil_of_length_eq_zero (hlen.trans h0)]
    exact ⟨rfl, rfl, by simpa [Instr.wf] using commandOf_eq_none.mp hc⟩
  | some c =>
    rw [Machine.opArgCount_of_commandOf hc] at hlen
    have hi : opcodeInstr cfg.opcodeMap op (argBuffer args) = commandInstr c (argBuffer args) := by simp [opcodeInstr, hc]
    have hfit : args.length ≤ 16 := hlen.trans_le (Machine.argCount_le c)
    rw [hi, encode_commandInstr, byte_of_commandOf hc, ← hlen, argBuffer_toList_take hfit]
    exact ⟨rfl, frameKind_commandInstr c _, commandInstr_wf _ c _⟩

/-- Settles O2: the decoder's bytes of each kind of frame are what the instruction it reads from them encodes to. -/
theorem decodedBytesEncodeBack : Obligations.DecodedBytesEncodeBack := by
  intro cfg k bytes rest i h
  match k, bytes, h with
  | .command, op :: args, h =>
    obtain ⟨hle, rfl, rfl⟩ := decode_command.mp h
    obtain ⟨henc, hkind, hwf⟩ := encode_opcodeInstr (List.length_take_of_le hle)
    exact ⟨by rw [henc, List.cons_append, List.take_append_drop], hkind, hwf⟩
  | .argument, b :: _, h =>
    cases h
    exact ⟨rfl, rfl, rfl⟩
  | .pixel, [_], h => cases h
  | .pixel, b0 :: b1 :: _, h =>
    cases h
    exact ⟨by simp [encode], rfl, rfl⟩

/-! ### The opcode map and the Command Table -/

/-- Settles O3: an injective map names a byte's command, and the decoder finds it. -/
theorem everyOpcodeByteDecodesToOneCommand : Obligations.EveryOpcodeByteDecodesToOneCommand := by
  intro m h b a
  refine ⟨?_, ?_, ?_⟩
  · rintro c d rfl hd
    exact (List.inj_on_of_nodup_map h (Command.mem_all d) (Command.mem_all c) hd).symm
  · rintro c rfl
    exact ⟨opcodeInstr_byte h c a, opArgCount_byte h c⟩
  · intro hnone
    exact opcodeInstr_of_unnamed (commandOf_eq_none.mpr (OpcodeMap.inImage_eq_false.mpr hnone)) a

/-- Settles O4: the count of a command's byte is the command's, which the table lists, and a byte of no command has none. -/
theorem commandTableCounts : Obligations.CommandTableCounts := by
  intro m h
  have hcount := opArgCount_byte h
  refine ⟨?_, ?_, ?_, ?_, hcount _, ?_, ?_, fun b hb =>
    (opcodeInstr_of_unnamed (commandOf_eq_none.mpr (OpcodeMap.inImage_eq_false.mpr hb)) (argBuffer [])).2⟩
  all_goals
    simp only [hcount]
    decide

/-- Settles O5: each word runs through the decoder. -/
theorem specEncodingsDecode : Obligations.SpecEncodingsDecode :=
  ⟨rfl, rfl, rfl, rfl, rfl, rfl, rfl, rfl, rfl, rfl, rfl⟩

end Sys2Proof
end

section
/-! PROOFS. The delivery of a frame (spec/40_protocol.md): a command's opcode and its arguments in buffers of their own, a pixel
frame in two buffers, and the orientation that `MADCTL` takes from its argument (spec/30_encoding.md R79). -/

namespace Sys2Proof.Machine

/-! ### Storing several arguments -/

/-- Store argument bytes from `command_index` up and count them (R105, R26). -/
def State.pushArguments (s : State) (args : List Byte) : State :=
  { s with
    commandIndex := s.commandIndex + args.length
    commandBuf := Vector.ofFn fun k =>
      if s.commandIndex ≤ k.val then args.getD (k.val - s.commandIndex) s.commandBuf[k] else s.commandBuf[k] }

/-- Storing no bytes changes nothing. -/
@[simp] theorem State.pushArguments_nil (s : State) : s.pushArguments [] = s := by
  simp [State.pushArguments]

/-- Storing bytes is storing the first and then the others. -/
theorem State.pushArguments_cons (s : State) (b : Byte) (bs : List Byte) :
    s.pushArguments (b :: bs) = (s.pushArgument b).pushArguments bs := by
  refine congrArg₂ (fun n v => { s with commandIndex := n, commandBuf := v }) ?_ (Vector.ext fun k hk => ?_)
  · rw [List.length_cons, State.pushArgument_commandIndex]
    omega
  · simp only [Vector.getElem_ofFn, Fin.getElem_fin, State.pushArgument_commandIndex, State.pushArgument_commandBuf,
      Vector.getElem_setIfInBounds]
    obtain hlt | rfl | hgt := lt_trichotomy k s.commandIndex
    · simp [hlt.not_ge, hlt.ne', (Nat.lt_succ_of_lt hlt).not_ge]
    · simp
    · obtain ⟨d, rfl⟩ := Nat.exists_eq_add_of_lt hgt
      simp [Nat.add_assoc, Nat.add_sub_add_left]

/-- The missing arguments of a command in flight are stored, and the last one dispatches it (R105, R106). -/
theorem argumentStream_of_complete {buf : List Byte} {s : State} (hne : buf ≠ [])
    (h : s.commandIndex + buf.length = s.commandSize) : argumentStream buf s = dispatch (s.pushArguments buf) := by
  induction buf generalizing s with
  | nil => exact absurd rfl hne
  | cons b bs ih =>
    rw [List.length_cons] at h
    rw [State.pushArguments_cons]
    cases bs with
    | nil => rw [argumentStream_singleton, acceptArgument_of_last b h, State.pushArguments_nil]
    | cons b' bs =>
      rw [List.length_cons] at h
      calc argumentStream (b :: b' :: bs) s
        _ = argumentStream (b' :: bs) (s.pushArgument b) := by
          rw [argumentStream, runEach_cons, acceptArgument_of_missing b (by omega)]; rfl
        _ = dispatch ((s.pushArgument b).pushArguments (b' :: bs)) := ih (by simp) (by simp; omega)

/-! ### A command frame in its buffers -/

/-- A whole command frame is an opcode and exactly its arguments (R71). -/
theorem decode_command_whole {cfg : Config} {op : Byte} {args : List Byte} {i : Instr}
    (h : decode cfg .command (op :: args) = .ok (i, [])) :
    opArgCount cfg.opcodeMap op = args.length ∧ opcodeInstr cfg.opcodeMap op (argBuffer args) = i := by
  obtain ⟨hle, hi, hdrop⟩ := decode_command.mp h
  have hlen := hle.antisymm (List.drop_eq_nil_iff.mp hdrop)
  rw [hlen, List.take_length] at hi
  exact ⟨hlen, hi⟩

/-- Settles O28: the stream stores the bytes and dispatches, and the stored bytes are the arguments the frame decodes with. -/
theorem completedFrameRunsItsCommand : Obligations.CompletedFrameRunsItsCommand := by
  intro s args rest i hm hw hidx hsize hne hin hd
  obtain ⟨hcount, hi⟩ := decode_command_whole hd
  have hstored : (s.setInbox rest).pushArguments args = { s with
      inbox := rest
      commandIndex := args.length
      commandBuf := Vector.ofFn fun k => args.getD k.val s.commandBuf[k] } := by
    simp [State.pushArguments, State.setInbox, hidx]
  rw [step_arguments hin hm hw, argumentStream_of_complete hne (by simp [hidx, hsize]), hstored]
  refine dispatch_eq_exec (Eq.trans (opcodeInstr_congr _ _ _ _ fun k hk hn => ?_) hi)
  have hlt : k < args.length := hcount ▸ hn
  simp [argBuffer, hlt]

/-- A COMMAND buffer of one opcode with arguments only begins the command, with the latch clear (R102). -/
theorem commandStream_singleton_of_args {s : State} {b : Byte} (hpos : 0 < opArgCount s.cfg.opcodeMap b) :
    commandStream [b] s = .next (s.clearLatch.beginCommand b (opArgCount s.cfg.opcodeMap b)) := by
  simp only [commandStream, runEach_cons, andThen_runEach_nil, acceptOpcode, takeOpcode_first,
    State.beginCommand_commandSize, hpos.ne', if_false]

/-- Settles O29: the command's bytes decode back to it, so the opcode begins it, the mode line changes the mode, and its arguments
complete the frame. -/
theorem encodedCommandRunsEndToEnd : Obligations.EncodedCommandRunsEndToEnd := by
  intro s i op args rest hinj hkind hwf henc hne hm hin
  have hd : decode s.cfg .command (op :: args) = .ok (i, []) := by
    simpa [hkind, henc] using encodedInstructionsDecodeBack s.cfg i [] hinj hwf
  obtain ⟨hcount, -⟩ := decode_command_whole hd
  have hpos : 0 < opArgCount s.cfg.opcodeMap op := hcount ▸ List.length_pos_of_ne_nil hne
  have hbegin : step s =
      .next ((s.setInbox (.modeLine .data :: .bytes args :: rest)).clearLatch.beginCommand op args.length) := by
    rw [step_opcodes hin hm, ← hcount]
    exact commandStream_singleton_of_args hpos
  rw [hbegin, andThen_next, step_event (e := .modeLine .data) rfl]
  exact completedFrameRunsItsCommand _ args rest i rfl rfl rfl rfl hne rfl hd

/-! ### A pixel frame in two buffers -/

/-- Two pixel buffers put together do what they do one after the other, when the first holds whole samples (R104, R83). -/
theorem pixelStream_append {a : List Byte} (b : List Byte) (s : State) (h : a.length % 2 = 0) :
    pixelStream (a ++ b) s = andThen (pixelStream a s) (pixelStream b) := by
  rw [pixelStream, samplesOf_append _ _ _ h, runEach_append]
  change andThen (pixelStream a s) _ = _
  cases hr : pixelStream a s with
  | next u => simp only [andThen_next, pixelStream, (pixelStream_sameSetup hr).cfg]
  | fault e => rfl
  | refused e => rfl

theorem plot_setInbox (s : State) (l : List Event) (v : Word) : (s.setInbox l).plot v = (s.plot v).setInbox l := by
  unfold State.plot
  rw [State.setInbox_cfg, show (s.setInbox l).cursorPoint = s.cursorPoint from rfl]
  split <;> rfl

theorem advance_setInbox (s : State) (l : List Event) : (s.setInbox l).advance = s.advance.setInbox l := by
  cases h : s.swap with
  | false => rw [s.advance_cursor_of_not_swap h, (s.setInbox l).advance_cursor_of_not_swap h]; rfl
  | true => rw [s.advance_cursor_of_swap h, (s.setInbox l).advance_cursor_of_swap h]; rfl

/-- A sample does not read the inbox, and keeps it (R170). -/
theorem exec_pix_setInbox (v : Word) (l : List Event) :
    Simulates (fun s₁ s₂ => s₂ = s₁.setInbox l) (exec (.pix v)) := by
  rintro s₁ _ t₁ rfl h
  obtain rfl := exec_pix_inv h
  exact ⟨_, rfl, by rw [plot_setInbox, advance_setInbox]⟩

/-- A pixel buffer does not read the inbox, and keeps it (R104). -/
theorem pixelStream_setInbox {buf : List Byte} {s t : State} (h : pixelStream buf s = .next t) (l : List Event) :
    pixelStream buf (s.setInbox l) = .next (t.setInbox l) := by
  obtain ⟨_, ht, rfl⟩ := runEach_simulates (fun v => exec_pix_setInbox v l) _ s _ t rfl h
  exact ht

/-- Handling a list of inputs completes if handling each one does (R200). -/
theorem runEach_completes {α : Type} {f : α → State → Result} (hf : ∀ a s, ∃ t, f a s = .next t) (as : List α)
    (s : State) : ∃ t, runEach f as s = .next t := by
  induction as generalizing s with
  | nil => exact ⟨s, rfl⟩
  | cons a as ih =>
    obtain ⟨u, hu⟩ := hf a s
    rw [runEach_cons, hu]
    exact ih u

/-- A step with a pixel buffer delivered to a state (R104). -/
theorem step_setInbox_pixels {s : State} (hm : s.mode = .data) (hw : s.ramWrite = true) (buf : List Byte)
    (rest : List Event) : step (s.setInbox (.bytes buf :: rest)) = pixelStream buf (s.setInbox rest) :=
  step_pixels rfl hm hw

/-- Settles O37: a pixel buffer keeps the mode, the latch and the inbox, so the next step goes on with the second buffer's
samples. -/
theorem splitPixelBuffersAgree : Obligations.SplitPixelBuffersAgree := by
  intro s a b rest hm hw ha
  obtain ⟨u, hu⟩ : ∃ u, pixelStream a s = .next u := runEach_completes (fun v => exec_completes (.pix v)) _ s
  have hum : u.mode = .data := (pixelStream_sameSetup hu).mode.trans hm
  have huw : u.ramWrite = true := (pixelStream_ramWrite hu).trans hw
  calc step (s.setInbox (.bytes (a ++ b) :: rest))
    _ = andThen (pixelStream a (s.setInbox rest)) (pixelStream b) := by
      rw [step_setInbox_pixels hm hw, pixelStream_append b _ ha]
    _ = step (u.setInbox (.bytes b :: rest)) := by
      rw [pixelStream_setInbox hu, andThen_next, step_setInbox_pixels hum huw]
    _ = andThen (step (s.setInbox (.bytes a :: .bytes b :: rest))) step := by
      rw [step_setInbox_pixels hm hw, pixelStream_setInbox hu, andThen_next]

/-! ### The packed orientation -/

/-- The three top bits of a byte, each by itself. -/
theorem ofBool_append_topBits (a : Byte) :
    BitVec.ofBool (a.getLsbD 7) ++ (BitVec.ofBool (a.getLsbD 6) ++ BitVec.ofBool (a.getLsbD 5)) = a.extractLsb' 5 3 := by
  apply BitVec.eq_of_getLsbD_eq
  intro k hk
  simp only [BitVec.getLsbD_append, BitVec.getLsbD_ofBool, BitVec.getLsbD_extractLsb']
  interval_cases k <;> simp

/-- Settles O9: `MADCTL` takes the three flags from bits 7, 6 and 5. -/
theorem packedOrientationIsTopThreeBits : Obligations.PackedOrientationIsTopThreeBits := by
  intro s a hbits
  refine ⟨_, rfl, ?_⟩
  rw [State.setOrientationFrom_eq, hbits]
  exact ofBool_append_topBits a

end Sys2Proof.Machine
end

section
/-! PROOFS. COMMAND buffers (spec/40_protocol.md R102): every byte is taken as an opcode, in order, the latch is cleared as the
policy says, and the obligations on the opcode stream. -/

namespace Sys2Proof.Machine

/-! ### One opcode byte -/

/-- Of the latch an opcode byte keeps what the policy does not clear (R102, D11). -/
@[simp] theorem State.takeOpcode_ramWrite (s : State) (b : Byte) :
    (s.takeOpcode b).ramWrite = (s.ramWrite && decide (s.cfg.latchClear = .perBuffer)) := by
  cases h : s.cfg.latchClear <;> simp [State.takeOpcode, h]

/-- What an opcode byte writes, field by field (R102). -/
theorem State.takeOpcode_eq (s : State) (b : Byte) :
    s.takeOpcode b = { s with
      ramWrite := s.ramWrite && decide (s.cfg.latchClear = .perBuffer)
      commandCode := b, commandSize := opArgCount s.cfg.opcodeMap b, commandIndex := 0 } := by
  cases h : s.cfg.latchClear <;> simp [State.takeOpcode, h] <;> rfl

/-- An opcode byte in the stream is taken with the latch as the policy leaves it: it runs if it is a whole frame (R102). -/
theorem acceptOpcode_eq_opcodeTaken (b : Byte) (s : State) :
    acceptOpcode b s = opcodeTaken b (s.ramWrite && decide (s.cfg.latchClear = .perBuffer)) s := by
  rw [acceptOpcode, State.takeOpcode_commandSize]
  by_cases h0 : opArgCount s.cfg.opcodeMap b = 0
  · have hd : decode s.cfg .command [b] = .ok (opcodeInstr s.cfg.opcodeMap b (argBuffer []), []) :=
      decode_command_singleton.mpr ⟨h0, rfl⟩
    rw [if_pos h0, opcodeTaken, hd, ← State.takeOpcode_eq]
    exact dispatch_eq_exec (by simpa using opcodeInstr_of_noArgs h0 _ _)
  · have hd : decode s.cfg .command [b] = .error (.argumentsMissing b (opArgCount s.cfg.opcodeMap b) 0) := by
      simp [decode, Nat.pos_of_ne_zero h0]
    rw [if_neg h0, opcodeTaken, hd, ← State.takeOpcode_eq]

/-- After an opcode byte the command in flight is that byte's, without any argument yet (R102). -/
theorem acceptOpcode_commandFields {b : Byte} {s t : State} (h : acceptOpcode b s = .next t) :
    t.commandCode = b ∧ t.commandSize = opArgCount s.cfg.opcodeMap b ∧ t.commandIndex = 0 ∧
    t.commandBuf = s.commandBuf := by
  obtain ⟨-, rfl⟩ | ⟨-, hd⟩ := acceptOpcode_inv h
  · simp
  · obtain ⟨-, -, hcode, hsize, hindex, hbuf, -⟩ := dispatch_frame hd
    simp [hcode, hsize, hindex, hbuf]

/-! ### The opcode stream -/

/-- Whatever the latch was, a COMMAND buffer begins with it clear, under either policy (R102, D11). -/
theorem commandStream_clearLatch (b : Byte) (bs : List Byte) (s : State) :
    commandStream (b :: bs) s.clearLatch = commandStream (b :: bs) s := by
  simp only [commandStream, runEach_cons, acceptOpcode, takeOpcode_first]
  rfl

/-- A buffer of one byte takes it with the latch clear (R102). -/
theorem commandStream_singleton (b : Byte) (s : State) : commandStream [b] s = opcodeTaken b false s := by
  rw [commandStream, runEach_cons, andThen_runEach_nil, acceptOpcode_eq_opcodeTaken]
  cases h : s.cfg.latchClear with
  | perBuffer => rw [if_pos rfl, State.clearLatch_ramWrite, Bool.false_and]; rfl
  | perOpcode => simp [h]

/-- The last byte of a longer buffer is taken in the state the bytes before it lead to (R102). -/
theorem commandStream_snoc (buf : List Byte) (b : Byte) (s : State) :
    commandStream (buf ++ [b]) s = andThen (commandStream buf s) (acceptOpcode b) := by
  rw [commandStream, runEach_append]
  exact congrArg (andThen _) (funext fun u => andThen_runEach_nil (f := acceptOpcode) _)

/-- No opcode byte writes the argument buffer (R102, R26). -/
theorem commandStream_commandBuf {buf : List Byte} {s t : State} (h : commandStream buf s = .next t) :
    t.commandBuf = s.commandBuf := by
  have hbytes (u : State) (hu : runEach acceptOpcode buf u = .next t) : t.commandBuf = u.commandBuf :=
    runEach_relates (fun u t => t.commandBuf = u.commandBuf) (fun _ => rfl) (fun _ _ _ h h' => h'.trans h)
      (fun _ _ _ h => by obtain ⟨-, -, -, hbuf⟩ := acceptOpcode_commandFields h; exact hbuf) buf u t hu
  obtain ⟨-, h⟩ | ⟨-, h⟩ := commandStream_inv h
  · exact hbytes s.clearLatch h
  · exact hbytes s h

/-- Without `RAMWR` among its bytes, a COMMAND buffer that is not empty leaves the latch clear (R102, R144). -/
theorem commandStream_ramWrite_eq_false {buf : List Byte} {s t : State} (h : commandStream buf s = .next t)
    (hne : buf ≠ []) (hno : ∀ x ∈ buf, commandOf s.cfg.opcodeMap x ≠ some .ramwr) : t.ramWrite = false := by
  obtain ⟨b, bs, rfl⟩ := List.exists_cons_of_ne_nil hne
  rw [← commandStream_clearLatch] at h
  by_contra hset
  obtain ⟨x, hmem, hx⟩ := commandStream_ramwr h rfl (by simpa using hset)
  exact hno x hmem hx

/-- A step with a COMMAND buffer delivered to a state (R102). -/
theorem step_setInbox_opcodes {s : State} (hm : s.mode = .command) {buf : List Byte} (hne : buf ≠ [])
    (rest : List Event) : step (s.setInbox (.bytes buf :: rest)) = commandStream buf (s.setInbox rest) := by
  obtain ⟨b, bs, rfl⟩ := List.exists_cons_of_ne_nil hne
  exact step_opcodes rfl hm

/-! ### The obligations -/

/-- Settles O30: the stream runs its bytes one after another, each as `opcodeTaken` says, and the last byte writes the command
fields. -/
theorem eachCommandBufferByteIsAnOpcode : Obligations.EachCommandBufferByteIsAnOpcode := by
  intro s b rest hm
  refine ⟨?single, ?snoc, ?after⟩
  case single => exact (step_setInbox_opcodes hm (by simp) rest).trans (commandStream_singleton b _)
  case snoc =>
    intro buf hne
    change step (s.setInbox _) = andThen (step (s.setInbox _)) _
    rw [step_setInbox_opcodes hm (by simp), step_setInbox_opcodes hm hne, commandStream_snoc]
    cases hr : commandStream buf (s.setInbox rest) with
    | next u =>
      have hcfg : u.cfg = s.cfg := (commandStream_sameSetup hr).cfg
      rw [andThen_next, andThen_next, acceptOpcode_eq_opcodeTaken, hcfg]
    | fault e => rfl
    | refused e => rfl
  case after =>
    intro buf t ht
    have hstream : commandStream (buf ++ [b]) (s.setInbox rest) = .next t :=
      (step_setInbox_opcodes hm (by simp) rest).symm.trans ht
    obtain ⟨u, hu, hlast⟩ := andThen_eq_next ((commandStream_snoc buf b _).symm.trans hstream)
    obtain ⟨hcode, hsize, hindex, -⟩ := acceptOpcode_commandFields hlast
    have hcfg : u.cfg = s.cfg := (commandStream_sameSetup hu).cfg
    have hbuf := commandStream_commandBuf hstream
    exact ⟨hcode, hcfg ▸ hsize, hindex, hbuf, fun hno => commandStream_ramWrite_eq_false hstream (by simp) hno⟩

/-- Settles O31: the one opcode only begins its command. -/
theorem opcodeWithArgumentsWaits : Obligations.OpcodeWithArgumentsWaits := by
  intro s op rest hm hin hpos
  exact (step_opcodes hin hm).trans (commandStream_singleton_of_args hpos)

/-- Under an injective map the byte of a command without arguments runs that command (R76, R102). -/
theorem acceptOpcode_byte {m : OpcodeMap} (hinj : m.Injective) {s : State} (hmap : s.cfg.opcodeMap = m) {c : Command}
    (h0 : argCount c = 0) :
    acceptOpcode (m.byte c) s = exec (commandInstr c s.commandBuf) (s.takeOpcode (m.byte c)) := by
  subst hmap
  rw [acceptOpcode, State.takeOpcode_commandSize, opArgCount_byte hinj, if_pos h0]
  exact dispatch_eq_exec (by simp [opcodeInstr_byte hinj])

/-- A buffer of `RAMWR` and one more opcode takes that one with the latch set (R102, R144). -/
theorem commandStream_ramwr_pair {s : State} (hinj : s.cfg.opcodeMap.Injective) :
    ∃ u, u.cfg = s.cfg ∧ u.ramWrite = true ∧ ∀ b, commandStream [s.cfg.opcodeMap.ramwr, b] s = acceptOpcode b u := by
  have hone : commandStream [s.cfg.opcodeMap.ramwr] s =
      .next (s.clearLatch.beginCommand s.cfg.opcodeMap.ramwr 0).setLatch :=
    (commandStream_singleton_of_noArgs (opArgCount_byte hinj .ramwr)).trans
      (dispatch_eq_exec (i := .ramwr) (opcodeInstr_byte hinj .ramwr _))
  refine ⟨(s.clearLatch.beginCommand s.cfg.opcodeMap.ramwr 0).setLatch, rfl, rfl, fun b => ?_⟩
  rw [← List.singleton_append, commandStream_snoc, hone, andThen_next]

/-- Settles O32: after `RAMWR` the latch is set, `NOP` keeps of it what the policy does not clear, and `RAMWR` sets it again. -/
theorem latchClearPoliciesDiffer : Obligations.LatchClearPoliciesDiffer := by
  intro s rest hinj hm
  obtain ⟨u, hcfg, hset, hpair⟩ := commandStream_ramwr_pair (s := s.setInbox rest) hinj
  have hmap : u.cfg.opcodeMap = s.cfg.opcodeMap := congrArg Config.opcodeMap hcfg
  refine ⟨?nop, ?ramwr⟩
  case nop =>
    intro hin
    have hnop := acceptOpcode_byte hinj hmap (c := .nop) rfl
    exact ⟨_, (step_opcodes hin hm).trans ((hpair _).trans hnop), by simp [hset, hcfg]⟩
  case ramwr =>
    intro hin
    have hramwr := acceptOpcode_byte hinj hmap (c := .ramwr) rfl
    exact ⟨_, (step_opcodes hin hm).trans ((hpair _).trans hramwr), rfl⟩

end Sys2Proof.Machine
end

section
/-! PROOFS. DATA buffers and the lines (spec/40_protocol.md): argument bytes that are dropped, that only accumulate and that come
in two buffers (R105 to R108), what a pixel buffer writes (R104), and the events that write one or two fields or none (R100, R109
to R111, R222). -/

namespace Sys2Proof.Machine

/-! ### One argument byte -/

/-- Settles O15: `ARG` stores below `command_size`, where a store at 16 or more is out of the buffer, and else drops. -/
theorem argumentByteIsStoredOrDropped : Obligations.ArgumentByteIsStoredOrDropped := by
  intro s b
  refine ⟨?stored, ?counted, ?dropped⟩
  case stored =>
    intro hlt hi
    have hset : s.commandBuf.setIfInBounds s.commandIndex b = s.commandBuf.set s.commandIndex b hi :=
      Vector.ext fun k _ => by rw [Vector.getElem_setIfInBounds, Vector.getElem_set]
    rw [exec, execArg, if_pos hlt, State.pushArgument, hset]
  case counted =>
    intro hlt hi
    rw [exec, execArg, if_pos hlt, State.pushArgument, Vector.setIfInBounds_eq_of_size_le hi]
  case dropped =>
    intro hle
    rw [exec, execArg, if_neg hle.not_gt]

/-- Every argument byte completes (R200). -/
theorem acceptArgument_completes (b : Byte) (s : State) : ∃ t, acceptArgument b s = .next t := by
  obtain hfull | hlt | heq : s.commandSize ≤ s.commandIndex ∨ s.commandIndex + 1 < s.commandSize ∨
      s.commandIndex + 1 = s.commandSize := by omega
  · exact ⟨_, acceptArgument_of_full b hfull⟩
  · exact ⟨_, acceptArgument_of_missing b hlt⟩
  · rw [acceptArgument_of_last b heq]
    exact exec_completes _ _

/-! ### An argument buffer -/

theorem argumentStream_completes (buf : List Byte) (s : State) : ∃ t, argumentStream buf s = .next t :=
  runEach_completes acceptArgument_completes buf s

/-- Settles O34: the stream completes, and with no argument missing it has dropped every byte. -/
theorem surplusArgumentsAreDropped : Obligations.SurplusArgumentsAreDropped := by
  intro s buf rest hm hw hfull hin
  obtain ⟨t, ht⟩ := argumentStream_completes buf (s.setInbox rest)
  obtain rfl := argumentStream_dropped ht hfull
  exact (step_arguments hin hm hw).trans ht

/-- Bytes that leave an argument missing are stored, and nothing is dispatched (R105, R106). -/
theorem argumentStream_of_partial {buf : List Byte} {s : State} (h : s.commandIndex + buf.length < s.commandSize) :
    argumentStream buf s = .next (s.pushArguments buf) := by
  induction buf generalizing s with
  | nil => rw [State.pushArguments_nil]; rfl
  | cons b bs ih =>
    rw [List.length_cons] at h
    calc argumentStream (b :: bs) s
      _ = argumentStream bs (s.pushArgument b) := by
        rw [argumentStream, runEach_cons, acceptArgument_of_missing b (by omega)]; rfl
      _ = .next ((s.pushArgument b).pushArguments bs) := ih (by simp; omega)
      _ = .next (s.pushArguments (b :: bs)) := by rw [State.pushArguments_cons]

/-- Settles O35: the stream only stores the bytes. -/
theorem partialArgumentsOnlyAccumulate : Obligations.PartialArgumentsOnlyAccumulate := by
  intro s buf rest hm hw hlt _ hin
  exact (step_arguments hin hm hw).trans (argumentStream_of_partial hlt)

/-! ### Two argument buffers -/

theorem reportUnhandled_setInbox (s : State) (l : List Event) :
    (s.setInbox l).reportUnhandled = s.reportUnhandled.setInbox l := by
  unfold State.reportUnhandled
  rw [State.setInbox_cfg]
  split <;> rfl

/-- No meaning reads the inbox, and each keeps it (R130, R105, R170). -/
theorem exec_setInbox (i : Instr) (l : List Event) : Simulates (fun s₁ s₂ => s₂ = s₁.setInbox l) (exec i) := by
  rintro s _ t rfl h
  refine ⟨_, ?_, rfl⟩
  cases i
  case caset | paset | arg =>
    cases h
    refine congrArg Host.Outcome.next (Eq.trans ?_ (apply_ite (State.setInbox · l) _ _ _).symm)
    rfl
  case pwctr2 | invctr | pwctr3 | pwctr4 | pwctr5 | disset5 | frmctr1 | frmctr2 | frmctr3 | gmctrp1 | gmctrn1 =>
    cases h
    exact congrArg Host.Outcome.next (reportUnhandled_setInbox s l)
  case pix v =>
    obtain ⟨_, ht, rfl⟩ := exec_pix_setInbox v l s _ t rfl h
    exact ht
  all_goals
    cases h
    rfl

/-- An argument byte does not read the inbox, and keeps it, and so does the dispatch it may bring about (R105, R130). -/
theorem acceptArgument_setInbox (b : Byte) (l : List Event) :
    Simulates (fun s₁ s₂ => s₂ = s₁.setInbox l) (acceptArgument b) := by
  rintro s _ t rfl h
  obtain ⟨hfull, rfl⟩ | ⟨hlt, rfl⟩ | ⟨heq, hd⟩ := acceptArgument_inv h
  · exact ⟨_, acceptArgument_of_full b hfull, rfl⟩
  · exact ⟨_, acceptArgument_of_missing b hlt, rfl⟩
  · rw [acceptArgument_of_last (s := s.setInbox l) b heq]
    exact exec_setInbox _ l _ _ t rfl hd

/-- An argument buffer does not read the inbox, and keeps it (R105). -/
theorem argumentStream_setInbox {buf : List Byte} {s t : State} (h : argumentStream buf s = .next t) (l : List Event) :
    argumentStream buf (s.setInbox l) = .next (t.setInbox l) := by
  obtain ⟨_, ht, rfl⟩ := runEach_simulates (fun b => acceptArgument_setInbox b l) buf s _ t rfl h
  exact ht

/-- A step with an argument buffer delivered to a state (R105). -/
theorem step_setInbox_arguments {s : State} (hm : s.mode = .data) (hw : s.ramWrite = false) (buf : List Byte)
    (rest : List Event) : step (s.setInbox (.bytes buf :: rest)) = argumentStream buf (s.setInbox rest) :=
  step_arguments rfl hm hw

/-- Settles O36: with the command fields in range the first buffer keeps the mode and the clear latch, so the next step goes on
with the second buffer's bytes. -/
theorem splitArgumentBuffersAgree : Obligations.SplitArgumentBuffersAgree := by
  intro s a b rest hok hm hw
  obtain ⟨u, hu⟩ := argumentStream_completes a s
  have hum : u.mode = .data := by
    obtain ⟨-, hmode⟩ := argumentStream_frame hu
    exact hmode.trans hm
  have huw : u.ramWrite = false := (argumentStream_ramWrite hu hok).trans hw
  calc step (s.setInbox (.bytes (a ++ b) :: rest))
    _ = andThen (argumentStream a (s.setInbox rest)) (argumentStream b) := by
      rw [step_setInbox_arguments hm hw, argumentStream_append]
    _ = step (u.setInbox (.bytes b :: rest)) := by
      rw [argumentStream_setInbox hu, andThen_next, step_setInbox_arguments hum huw]
    _ = andThen (step (s.setInbox (.bytes a :: .bytes b :: rest))) step := by
      rw [step_setInbox_arguments hm hw, argumentStream_setInbox hu, andThen_next]

/-! ### What a pixel buffer writes -/

/-- The state `t` differs from `s` at most in the two cursors, the framebuffer and the output history (R37). -/
def PixelWrites (s t : State) : Prop :=
  t = { s with activeColumn := t.activeColumn, activePage := t.activePage, fb := t.fb, outputs := t.outputs }

theorem PixelWrites.trans {s u t : State} (h : PixelWrites s u) (h' : PixelWrites u t) : PixelWrites s t := by
  rw [PixelWrites] at h h' ⊢
  rw [h] at h'
  exact h'

theorem plot_pixelWrites (s : State) (v : Word) : PixelWrites s (s.plot v) := by
  unfold State.plot
  split <;> rfl

theorem advance_pixelWrites (s : State) : PixelWrites s s.advance := by
  cases h : s.swap with
  | false => rw [s.advance_cursor_of_not_swap h]; rfl
  | true => rw [s.advance_cursor_of_swap h]; rfl

/-- A pixel buffer plots and advances, once a sample (R104, R170). -/
theorem pixelStream_pixelWrites {buf : List Byte} {s t : State} (h : pixelStream buf s = .next t) : PixelWrites s t :=
  runEach_relates PixelWrites (fun _ => rfl) (fun _ _ _ => .trans)
    (fun v s t h => by obtain rfl := exec_pix_inv h; exact (plot_pixelWrites s v).trans (advance_pixelWrites _)) _ s t h

/-- Settles O39: the step is a pixel stream, which completes and writes no other field. -/
theorem pixelBuffersWriteOnlyCursorAndOutputs : Obligations.PixelBuffersWriteOnlyCursorAndOutputs := by
  rintro s ⟨hm, hw, b, bs, rest, hin⟩
  obtain ⟨t, ht⟩ : ∃ t, pixelStream (b :: bs) (s.setInbox rest) = .next t :=
    runEach_completes (fun v => exec_completes (.pix v)) _ _
  refine ⟨t, (step_pixels hin hm hw).trans ht, ?_⟩
  rw [hin]
  exact pixelStream_pixelWrites ht

/-! ### The lines and the empty buffer -/

/-- Settles O33: an empty buffer is handled before the mode is read. -/
theorem emptyBufferIsNoOp : Obligations.EmptyBufferIsNoOp := fun _ _ hin => step_bytes hin

/-- Settles O40: the event is handled by `setMode`. -/
theorem modeLineWritesTheModeOnly : Obligations.ModeLineWritesTheModeOnly := fun _ _ _ hin => step_event hin

/-- Settles O41: the event is handled by `discardCommand`. -/
theorem selectAssertDiscardsTheCommand : Obligations.SelectAssertDiscardsTheCommand := fun _ _ hin => step_event hin

/-- Settles O42: both events are handled by leaving the state as it is. -/
theorem deassertionsChangeNothing : Obligations.DeassertionsChangeNothing := fun _ _ =>
  ⟨fun hin => step_event hin, fun hin => step_event hin⟩

end Sys2Proof.Machine
end

section
/-! PROOFS. What each command does (spec/41_commands.md): the two window commands as one operation on one axis, the reports
under `DIAG_UNHANDLED`, and the obligations on the commands. -/

namespace Sys2Proof.Machine

/-! ### The window of one axis -/

/-- `SetPageWindow` without vertical mirror stores the values as given (R132). -/
theorem State.setPageWindow_of_not_vmirror {s : State} (hv : s.vmirror = false) (first last : Word) :
    s.setPageWindow first last = { s with pageStart := first, pageEnd := last, activePage := first } := by
  simp [State.setPageWindow, hv]

/-- `SetPageWindow` under vertical mirror stores the values less 32, modulo 65536 (R132, D5, D23). -/
theorem State.setPageWindow_of_vmirror {s : State} (hv : s.vmirror = true) (first last : Word) :
    s.setPageWindow first last =
      { s with pageStart := first - 32#16, pageEnd := last - 32#16, activePage := first - 32#16 } := by
  simp [State.setPageWindow, hv]

/-- Set the window of the page axis, or of the column axis: what `CASET` and `PASET` have in common (R146, R147). -/
def State.setAxisWindow (s : State) (page : Bool) (first last : Word) : State :=
  if page then s.setPageWindow first last else s.setColumnWindow first last

@[simp] theorem State.setAxisWindow_swap (s : State) (page : Bool) (first last : Word) :
    (s.setAxisWindow page first last).swap = s.swap := by
  cases page <;> rfl

/-- The page offset depends on the orientation only, which a window does not write, so it is the same both times (R160). -/
theorem State.setAxisWindow_idem (s : State) (page : Bool) (first last : Word) :
    (s.setAxisWindow page first last).setAxisWindow page first last = s.setAxisWindow page first last := by
  cases page <;> rfl

/-- `CASET` sets the page axis exactly when `swap` is set (R146). -/
theorem exec_caset {s : State} {page : Bool} (hs : s.swap = page) (first last : Word) :
    exec (.caset first last) s = .next (s.setAxisWindow page first last) := by
  subst hs
  rfl

/-- `PASET` sets the page axis exactly when `swap` is clear (R147). -/
theorem exec_paset {s : State} {page : Bool} (hs : s.swap = !page) (first last : Word) :
    exec (.paset first last) s = .next (s.setAxisWindow page first last) := by
  cases page <;> exact congrArg Host.Outcome.next (by rw [hs]; rfl)

/-- Settles O10: `CASET` sets the axis that `swap` selects, the page axis with the offset that `vmirror` selects. -/
theorem casetSetsOneWindow : Obligations.CasetSetsOneWindow := by
  intro s first last
  refine ⟨fun hs => exec_caset hs first last, fun hs hv => ?_, fun hs hv => ?_⟩
  · rw [exec_caset hs]
    exact congrArg Host.Outcome.next (State.setPageWindow_of_not_vmirror hv first last)
  · rw [exec_caset hs]
    exact congrArg Host.Outcome.next (State.setPageWindow_of_vmirror hv first last)

/-- Settles O11: `PASET` sets the other axis, the page axis with the offset that `vmirror` selects. -/
theorem pasetSetsOneWindow : Obligations.PasetSetsOneWindow := by
  intro s first last
  refine ⟨fun hs => exec_paset (page := false) hs first last, fun hs hv => ?_, fun hs hv => ?_⟩
  · rw [exec_paset (page := true) hs]
    exact congrArg Host.Outcome.next (State.setPageWindow_of_not_vmirror hv first last)
  · rw [exec_paset (page := true) hs]
    exact congrArg Host.Outcome.next (State.setPageWindow_of_vmirror hv first last)

/-! ### The orientation -/

/-- `MADCTL` writes the three flags (R145). -/
theorem exec_madctl (a : Byte) (s : State) : exec (.madctl a) s = .next (s.setOrientation
    (a.getLsb s.cfg.madctlBits.swap) (a.getLsb s.cfg.madctlBits.hmirror) (a.getLsb s.cfg.madctlBits.vmirror)) := rfl

/-- Settles O8: the flags are the bits that `MADCTL_BITS` names, whatever they are. -/
theorem madctlSetsTheOrientationOnly : Obligations.MadctlSetsTheOrientationOnly := by
  refine fun s a => ⟨exec_madctl a s, fun hbits => ?_⟩
  rw [exec_madctl, hbits]
  rfl

/-- Settles O12: none of the three commands writes what it reads, `MADCTL_BITS` for the orientation and the orientation for
the windows. -/
theorem windowCommandsIdempotent : Obligations.WindowCommandsIdempotent := by
  intro s t a x y
  refine ⟨fun h => ?madctl, fun h => ?caset, fun h => ?paset⟩
  case madctl =>
    cases h
    exact exec_madctl a _
  case caset =>
    rw [exec_caset rfl] at h
    cases h
    rw [exec_caset (s.setAxisWindow_swap ..), State.setAxisWindow_idem]
  case paset =>
    have hs : s.swap = !(!s.swap) := (Bool.not_not _).symm
    rw [exec_paset hs] at h
    cases h
    rw [exec_paset ((s.setAxisWindow_swap ..).trans hs), State.setAxisWindow_idem]

/-! ### The latch and the commands without effect -/

/-- Settles O6: the meaning of each of the eleven commands is to skip. -/
theorem acceptedCommandsChangeNothing : Obligations.AcceptedCommandsChangeNothing := fun _ _ _ _ =>
  ⟨rfl, rfl, rfl, rfl, rfl, rfl, rfl, rfl, rfl, rfl, rfl⟩

/-- Settles O7: the meaning of `RAMWR` is `setLatch`. -/
theorem ramwrSetsTheLatchOnly : Obligations.RamwrSetsTheLatchOnly := fun _ => rfl

/-! ### The commands that report -/

/-- With `DIAG_UNHANDLED` the opcode is reported (D16). -/
theorem State.reportUnhandled_of_diagUnhandled {s : State} (h : s.cfg.diagUnhandled = true) :
    s.reportUnhandled = s.report s.commandCode := if_pos h

/-- Without `DIAG_UNHANDLED` nothing is reported (D16). -/
theorem State.reportUnhandled_of_not_diagUnhandled {s : State} (h : s.cfg.diagUnhandled = false) :
    s.reportUnhandled = s := if_neg (by simp [h])

/-- Settles O13: each of the eleven commands means `reportUnhandled`, which `DIAG_UNHANDLED` decides. -/
theorem unhandledCommandsOnlyReport : Obligations.UnhandledCommandsOnlyReport := by
  intro s a b c d e f v i hi
  have hexec : exec i s = .next s.reportUnhandled := by fin_cases hi <;> rfl
  exact ⟨fun h => hexec.trans (congrArg Host.Outcome.next (State.reportUnhandled_of_diagUnhandled h)),
    fun h => hexec.trans (congrArg Host.Outcome.next (State.reportUnhandled_of_not_diagUnhandled h))⟩

/-- Settles O14: the meaning of `UNKNOWN` is to report `command_code`. -/
theorem unknownOnlyReports : Obligations.UnknownOnlyReports := fun _ _ => rfl

end Sys2Proof.Machine
end

section
/-! PROOFS. One sample, steps 1 to 4 of `PixelStep`: where its pixel goes, what the framebuffer then reads, and the pixel's bytes
(spec/42_pixel_pipeline.md R170 to R177, spec/20_memory.md R51 to R55). -/

namespace Sys2Proof.Machine

/-! ### The mask decides -/

/-- A sample whose point the mask passes is one write at the point's offset (R177). -/
theorem plot_of_inMask {s : State} (h : inMask s.cfg s.cursorPoint = true) (v : Word) :
    s.plot v =
      s.memWrite (pixelOffset s.cfg s.cursorPoint) (pixelBytes s.cfg (pixelOffset s.cfg s.cursorPoint) v) := if_pos h

/-- A sample whose point the mask does not pass writes nothing (R177). -/
theorem plot_of_not_inMask {s : State} (h : inMask s.cfg s.cursorPoint = false) (v : Word) : s.plot v = s :=
  if_neg (by simp [h])

/-- The cursor's point, from the coordinates that the orientation gives it (R172 to R174). -/
theorem cursorPoint_eq {s : State} {x y : Int}
    (h : s.swap = false → x = mirrored s.hmirror s.cfg.width s.activeColumn.toNat ∧
      y = mirrored s.vmirror s.cfg.height s.activePage.toNat)
    (hswap : s.swap = true → x = mirrored s.hmirror s.cfg.width s.activePage.toNat ∧
      y = mirrored s.vmirror s.cfg.height s.activeColumn.toNat) : s.cursorPoint = (x, y) := by
  cases hs : s.swap with
  | false => obtain ⟨rfl, rfl⟩ := h hs; exact s.cursorPoint_of_not_swap hs
  | true => obtain ⟨rfl, rfl⟩ := hswap hs; exact s.cursorPoint_of_swap hs

/-- The mask with its squares as powers (R176). -/
theorem inMask_iff_sq (c : Config) (x y : Int) :
    inMask c (x, y) = true ↔ (x - radius c) ^ 2 + (y - radius c) ^ 2 ≤ (radius c : Int) ^ 2 := by
  simp only [inMask_iff, sq]

/-- Settles O16: the coordinates are those of the cursor's point, and the mask is the comparison of the statement. -/
theorem pixWritesExactlyInsideTheCircle : Obligations.PixWritesExactlyInsideTheCircle := by
  intro s v
  refine ⟨(s.plot v).advance, rfl, (plot_pixelWrites s v).trans (advance_pixelWrites _), ?_⟩
  rintro c p x y r rfl rfl h hswap rfl
  have hpoint : s.cursorPoint = (x, y) := cursorPoint_eq h hswap
  rw [State.advance_outputs, State.advance_fb]
  refine ⟨fun hin => ?inside, fun hout => ?outside⟩
  case inside =>
    have hmask : inMask s.cfg s.cursorPoint = true := by rw [hpoint]; exact (inMask_iff_sq ..).mpr hin
    rw [plot_of_inMask hmask, hpoint]
    exact ⟨rfl, rfl⟩
  case outside =>
    have hmask : inMask s.cfg s.cursorPoint = false := by
      rw [hpoint, Bool.eq_false_iff]
      exact fun hm => hout.not_ge ((inMask_iff_sq ..).mp hm)
    rw [plot_of_not_inMask hmask]
    exact ⟨rfl, rfl⟩

/-! ### What the framebuffer reads after a sample -/

/-- Settles O20: the one write a sample can make changes no byte outside its own. -/
theorem pixLeavesOtherBytes : Obligations.PixLeavesOtherBytes := by
  intro s t v h
  obtain rfl := exec_pix_inv h
  rw [State.advance_fb]
  refine ⟨fun hmask => ?inside, fun hmask => ?outside⟩
  case inside =>
    rintro off rfl a ha
    rw [plot_of_inMask hmask]
    exact sinkStore_read_outside _ _ _ _ a (by rwa [pixelBytes_length])
  case outside =>
    intro a
    rw [plot_of_not_inMask hmask]

/-- Settles O21: an offset of the mask is not negative, so the end of the pixel alone decides whether the sink stores it. -/
theorem pixStoresItsPixel : Obligations.PixStoresItsPixel := by
  intro s t v h hmask
  obtain rfl := exec_pix_inv h
  obtain ⟨hlen, -, hnonneg⟩ := wholePixel_of_inMask hmask v
  rw [State.advance_fb, plot_of_inMask hmask, State.memWrite_fb]
  obtain ⟨-, hfit, e⟩ | ⟨hmiss, e⟩ := sinkStore_cases s.cfg (pixelOffset s.cfg s.cursorPoint)
    (pixelBytes s.cfg (pixelOffset s.cfg s.cursorPoint) v) s.fb
  · rw [hlen] at hfit
    refine ⟨fun _ i hi => ?_, fun hpast => absurd hfit hpast.not_ge⟩
    rw [e, Memory.read_writeBytes_inside _ _ _ _ (by rwa [hlen]), pixelBytes_getElem]
  · rw [hlen] at hmiss
    exact ⟨fun hfit => absurd ⟨hnonneg, hfit⟩ hmiss, fun _ => e⟩

/-- Settles O22: the mask bounds each coordinate. -/
theorem maskedPointsLieInTheSquare : Obligations.MaskedPointsLieInTheSquare := by
  intro c x y h
  obtain ⟨hx0, hx⟩ := inMask_fst_bounds h
  obtain ⟨hy0, hy⟩ := inMask_snd_bounds h
  exact ⟨hx0, hx, hy0, hy⟩

/-! ### The bytes of a pixel -/

/-- A field times a power of two stands in the high bits of its channel, above zero bits (R175, D22). -/
theorem setWidth_mul_twoPow {n : Nat} (k : Nat) (x : BitVec n) :
    x.setWidth (n + k) * BitVec.twoPow (n + k) k = x ++ 0#k := by
  rw [BitVec.mul_twoPow_eq_shiftLeft]
  apply BitVec.eq_of_getLsbD_eq
  intro i hi
  simp only [BitVec.getLsbD_shiftLeft, BitVec.getLsbD_setWidth, BitVec.getLsbD_append, BitVec.getLsbD_zero]
  by_cases hk : i < k
  · simp [hk]
  · have hlow : i - k < n + k := by omega
    simp [hk, hi, hlow]

/-- The four channels of a sample as bits (R82, R175, D15, D22). -/
theorem decode565_eq (v : Word) : decode565 v =
    { r := v.extractLsb' 11 5 ++ 0#3, g := v.extractLsb' 5 6 ++ 0#2, b := v.extractLsb' 0 5 ++ 0#3, a := 0xFF#8 } := by
  rw [← setWidth_mul_twoPow, ← setWidth_mul_twoPow, ← setWidth_mul_twoPow]
  rfl

/-- The byte of a pixel at a place inside it. -/
theorem pixelBytes_getElem? {c : Config} {i : Nat} (hi : i < c.pixelSize) (off : Int) (v : Word) :
    (pixelBytes c off v)[i]? = some (pixelByte c off v i) := by
  rw [List.getElem?_eq_getElem (by rwa [pixelBytes_length]), pixelBytes_getElem]

/-- Settles O19: each channel stands at its place, and under the defaults the four places are the pixel. -/
theorem pixelCodecPlacesTheFields : Obligations.PixelCodecPlacesTheFields := by
  intro c off v hwf
  obtain ⟨hr, hg, hb, ha⟩ := pixelByte_channels hwf off v
  obtain ⟨-, ltr, ltg, ltb, lta⟩ := hwf
  rw [decode565_eq] at hr hg hb ha
  rw [pixelBytes_getElem? ltr, pixelBytes_getElem? ltg, pixelBytes_getElem? ltb, pixelBytes_getElem? lta, hr, hg, hb, ha]
  refine ⟨pixelBytes_length c off v, rfl, rfl, rfl, rfl, fun hsize hlayout => ?_⟩
  rw [hlayout] at hr hg hb ha
  calc pixelBytes c off v
    _ = [0, 1, 2, 3].map (pixelByte c off v) := by rw [pixelBytes, hsize]; rfl
    _ = _ := by simp only [List.map_cons, List.map_nil, hr, hg, hb, ha]

end Sys2Proof.Machine
end

section
/-! PROOFS. The advance of the cursor: its two axes as the fast one and the slow one, whichever `swap` makes of them,
and what one sample does to the cursor and to the device point it stands for (spec/42_pixel_pipeline.md R178 to R182). -/

namespace Sys2Proof.Machine

/-! ### One axis -/

/-- One axis of the window with its cursor (R28, R29). -/
structure Axis where
  cur : Word
  first : Word
  last : Word

/-- The axis after its cursor has advanced (R178, R179). -/
def Axis.next (a : Axis) : Axis := { a with cur := (nextOnAxis a.cur a.first a.last).1 }

/-- The cursor reloads and carries next (R180, D6). -/
abbrev Axis.AtEnd (a : Axis) : Prop := a.last.toNat < a.cur.toNat + 1

/-- The cursor lies in its window, which so is well formed (R33). -/
def Axis.Inside (a : Axis) : Prop := a.first.toNat ≤ a.cur.toNat ∧ a.cur.toNat ≤ a.last.toNat

/-- How many places a well-formed window has. -/
def Axis.size (a : Axis) : Nat := a.last.toNat - a.first.toNat + 1

/-- Which of them, from 0, the cursor is at. -/
def Axis.index (a : Axis) : Nat := a.cur.toNat - a.first.toNat

/-- The axis carries exactly then. -/
theorem Axis.carries_iff (a : Axis) : (nextOnAxis a.cur a.first a.last).2 = true ↔ a.AtEnd := by
  obtain ⟨hlt, e⟩ | ⟨hle, e, -⟩ := nextOnAxis_cases a.cur a.first a.last
  · rw [e]; exact iff_of_true rfl hlt
  · rw [e]; exact iff_of_false Bool.false_ne_true hle.not_gt

/-- An axis that advances under a condition is the advanced one or the one before. -/
theorem Axis.ite_next {b : Bool} {p : Prop} [Decidable p] (h : b = true ↔ p) (a : Axis) :
    { a with cur := if b then a.next.cur else a.cur } = if p then a.next else a := by
  rw [if_congr h rfl rfl]
  split <;> rfl

theorem Axis.next_cur_of_atEnd {a : Axis} (h : a.AtEnd) : a.next.cur = a.first := by
  obtain ⟨-, e⟩ | ⟨hle, -⟩ := nextOnAxis_cases a.cur a.first a.last
  · rw [next, e]
  · exact absurd h hle.not_gt

theorem Axis.next_cur_of_not_atEnd {a : Axis} (h : ¬ a.AtEnd) : a.next.cur.toNat = a.cur.toNat + 1 := by
  obtain ⟨hlt, -⟩ | ⟨-, e, hnext⟩ := nextOnAxis_cases a.cur a.first a.last
  · exact absurd hlt h
  · rw [next, e, hnext]

@[simp] theorem Axis.next_size (a : Axis) : a.next.size = a.size := rfl

theorem Axis.index_lt_size {a : Axis} (h : a.Inside) : a.index < a.size := by
  obtain ⟨hf, hl⟩ := h
  unfold index size
  omega

/-- The last place is the one whose cursor reloads next. -/
theorem Axis.atEnd_iff {a : Axis} (h : a.Inside) : a.AtEnd ↔ a.index + 1 = a.size := by
  obtain ⟨hf, hl⟩ := h
  unfold AtEnd index size
  omega

/-- Inside its window the cursor goes round it (R178 to R180). -/
theorem Axis.next_index {a : Axis} (h : a.Inside) : a.next.index = (a.index + 1) % a.size := by
  have hend := atEnd_iff h
  by_cases he : a.AtEnd
  · rw [hend.mp he, Nat.mod_self, index, next_cur_of_atEnd he]
    exact Nat.sub_self _
  · have hlt := index_lt_size h
    rw [Nat.mod_eq_of_lt (by omega), index, next_cur_of_not_atEnd he]
    obtain ⟨hf, -⟩ := h
    exact Nat.sub_add_comm hf

/-- Inside one window the index tells the cursor. -/
theorem Axis.cur_eq_of_index_eq {a b : Axis} (ha : a.Inside) (hb : b.Inside) (hfirst : a.first = b.first)
    (h : a.index = b.index) : a.cur = b.cur := by
  obtain ⟨hfa, -⟩ := ha
  obtain ⟨hfb, -⟩ := hb
  rw [index, index, hfirst] at h
  rw [hfirst] at hfa
  exact BitVec.eq_of_toNat_eq (by omega)

/-! ### The fast axis and the slow one -/

/-- The column axis of the state. -/
def State.columnAxis (s : State) : Axis := ⟨s.activeColumn, s.columnStart, s.columnEnd⟩

/-- The page axis of the state. -/
def State.pageAxis (s : State) : Axis := ⟨s.activePage, s.pageStart, s.pageEnd⟩

/-- The axis that advances with every sample (R178, R179). -/
def State.fastAxis (s : State) : Axis := if s.swap then s.pageAxis else s.columnAxis

/-- The axis that it carries into. -/
def State.slowAxis (s : State) : Axis := if s.swap then s.columnAxis else s.pageAxis

theorem State.axes_of_not_swap (s : State) (h : s.swap = false) :
    s.fastAxis = s.columnAxis ∧ s.slowAxis = s.pageAxis := by
  simp [fastAxis, slowAxis, h]

theorem State.axes_of_swap (s : State) (h : s.swap = true) : s.fastAxis = s.pageAxis ∧ s.slowAxis = s.columnAxis := by
  simp [fastAxis, slowAxis, h]

/-- `Advance()` on the two axes, in either orientation: the fast one advances, and the slow one when it carries (R178, R179). -/
theorem advance_axes (s : State) : s.advance.fastAxis = s.fastAxis.next ∧
    s.advance.slowAxis = if s.fastAxis.AtEnd then s.slowAxis.next else s.slowAxis := by
  cases h : s.swap with
  | false =>
    obtain ⟨ef, es⟩ := s.axes_of_not_swap h
    obtain ⟨ef', es'⟩ := s.advance.axes_of_not_swap (s.advance_swap.trans h)
    rw [ef, es, ef', es', s.advance_cursor_of_not_swap h]
    exact ⟨rfl, Axis.ite_next s.columnAxis.carries_iff s.pageAxis⟩
  | true =>
    obtain ⟨ef, es⟩ := s.axes_of_swap h
    obtain ⟨ef', es'⟩ := s.advance.axes_of_swap (s.advance_swap.trans h)
    rw [ef, es, ef', es', s.advance_cursor_of_swap h]
    exact ⟨rfl, Axis.ite_next s.pageAxis.carries_iff s.columnAxis⟩

@[simp] theorem plot_fastAxis (s : State) (v : Word) : (s.plot v).fastAxis = s.fastAxis := by
  simp [State.fastAxis, State.columnAxis, State.pageAxis]

@[simp] theorem plot_slowAxis (s : State) (v : Word) : (s.plot v).slowAxis = s.slowAxis := by
  simp [State.slowAxis, State.columnAxis, State.pageAxis]

/-- A sample advances the axes whatever became of its pixel (R181). -/
theorem exec_pix_axes (v : Word) (s : State) : ∃ t, exec (.pix v) s = .next t ∧ SameSetup s t ∧
    t.fastAxis = s.fastAxis.next ∧ t.slowAxis = if s.fastAxis.AtEnd then s.slowAxis.next else s.slowAxis := by
  have h := advance_axes (s.plot v)
  rw [plot_fastAxis, plot_slowAxis] at h
  exact ⟨_, rfl, exec_pix_sameSetup rfl, h⟩

/-! ### One sample and the cursor -/

/-- What it means for the axes `a` and `b` to become `a'` and `b'` when `a` is the fast one, as R178 and R179 put it. -/
theorem axes_advance_cases {a b a' b' : Axis} (ha : a' = a.next) (hb : b' = if a.AtEnd then b.next else b) :
    (a.cur.toNat + 1 > a.last.toNat → a'.cur = a.first ∧
      (b.cur.toNat + 1 > b.last.toNat → b'.cur = b.first) ∧
      (b.cur.toNat + 1 ≤ b.last.toNat → b'.cur.toNat = b.cur.toNat + 1)) ∧
    (a.cur.toNat + 1 ≤ a.last.toNat → a'.cur.toNat = a.cur.toNat + 1 ∧ b'.cur = b.cur) := by
  subst ha hb
  refine ⟨fun hend => ?_, fun hroom => ?_⟩
  · rw [if_pos hend]
    exact ⟨Axis.next_cur_of_atEnd hend, Axis.next_cur_of_atEnd, fun h => Axis.next_cur_of_not_atEnd h.not_gt⟩
  · rw [if_neg hroom.not_gt]
    exact ⟨Axis.next_cur_of_not_atEnd hroom.not_gt, rfl⟩

/-- Settles O17: the fast axis is that of the column. -/
theorem pixAdvancesColumnFirst : Obligations.PixAdvancesColumnFirst := by
  intro s v hs
  obtain ⟨t, ht, hsetup, hfast, hslow⟩ := exec_pix_axes v s
  obtain ⟨es, es'⟩ := s.axes_of_not_swap hs
  obtain ⟨et, et'⟩ := t.axes_of_not_swap (hsetup.orientation.1.trans hs)
  rw [es, et] at hfast
  rw [es, es', et'] at hslow
  exact ⟨t, ht, axes_advance_cases hfast hslow⟩

/-- Settles O18: the fast axis is that of the page. -/
theorem pixAdvancesPageFirst : Obligations.PixAdvancesPageFirst := by
  intro s v hs
  obtain ⟨t, ht, hsetup, hfast, hslow⟩ := exec_pix_axes v s
  obtain ⟨es, es'⟩ := s.axes_of_swap hs
  obtain ⟨et, et'⟩ := t.axes_of_swap (hsetup.orientation.1.trans hs)
  rw [es, et] at hfast
  rw [es, es', et'] at hslow
  exact ⟨t, ht, axes_advance_cases hfast hslow⟩

/-- In either orientation the fast axis feeds the device's x and the slow one its y (R172, R173, R182). -/
theorem cursorPoint_eq_axes (s : State) : s.cursorPoint =
    (mirrored s.hmirror s.cfg.width s.fastAxis.cur.toNat, mirrored s.vmirror s.cfg.height s.slowAxis.cur.toNat) := by
  cases h : s.swap with
  | false => obtain ⟨ef, es⟩ := s.axes_of_not_swap h; rw [ef, es]; exact s.cursorPoint_of_not_swap h
  | true => obtain ⟨ef, es⟩ := s.axes_of_swap h; rw [ef, es]; exact s.cursorPoint_of_swap h

/-- One place up on an axis is one place up or down on the device (R174). -/
theorem mirrored_add_one (flag : Bool) (size : Nat) (v : Int) :
    mirrored flag size (v + 1) = mirrored flag size v + if flag then -1 else 1 := by
  cases flag with
  | false => rfl
  | true => simp only [mirrored, if_true]; omega

/-- Settles O24: in terms of the fast axis and the slow one the two orientations are the same. -/
theorem deviceXChangesFastest : Obligations.DeviceXChangesFastest := by
  intro s v hcol hpage
  have hroom : ¬ s.fastAxis.AtEnd := by
    cases h : s.swap with
    | false => rw [(s.axes_of_not_swap h).1]; exact (hcol h).not_gt
    | true => rw [(s.axes_of_swap h).1]; exact (hpage h).not_gt
  obtain ⟨t, ht, hsetup, hfast, hslow⟩ := exec_pix_axes v s
  obtain ⟨-, hh, hv⟩ := hsetup.orientation
  rw [if_neg hroom] at hslow
  refine ⟨t, ht, ?_⟩
  rw [cursorPoint_eq_axes t, cursorPoint_eq_axes s, hsetup.cfg, hh, hv, hfast, hslow,
    Axis.next_cur_of_not_atEnd hroom, Nat.cast_add_one]
  exact ⟨rfl, mirrored_add_one _ _ _⟩

end Sys2Proof.Machine
end

section
/-! PROOFS. The traversal of a well-formed window (spec/42_pixel_pipeline.md R183): the cursor as a number that each sample raises
by one, modulo the number of cursor pairs; and what one pixel frame leaves alone (R171, R184). -/

namespace Sys2Proof.Machine

/-! ### The cursor as a number -/

/-- Both axes are well formed with their cursors inside (R33). -/
def State.InWindow (s : State) : Prop := s.fastAxis.Inside ∧ s.slowAxis.Inside

/-- Which cursor pair of the window the cursor is at, counted from 0 in the order of the traversal. -/
def State.rank (s : State) : Nat := s.fastAxis.index + s.fastAxis.size * s.slowAxis.index

/-- How many cursor pairs a well-formed window has. -/
def State.pairs (s : State) : Nat := s.columnAxis.size * s.pageAxis.size

theorem State.fastAxis_size_mul_slowAxis_size (s : State) : s.fastAxis.size * s.slowAxis.size = s.pairs := by
  cases h : s.swap with
  | false => obtain ⟨ef, es⟩ := s.axes_of_not_swap h; rw [ef, es, pairs]
  | true => obtain ⟨ef, es⟩ := s.axes_of_swap h; rw [ef, es, pairs, Nat.mul_comm]

/-- The two axes by their names. -/
theorem State.inWindow_iff (s : State) : s.InWindow ↔ s.columnAxis.Inside ∧ s.pageAxis.Inside := by
  cases h : s.swap with
  | false => obtain ⟨ef, es⟩ := s.axes_of_not_swap h; rw [InWindow, ef, es]
  | true => obtain ⟨ef, es⟩ := s.axes_of_swap h; rw [InWindow, ef, es, and_comm]

/-- A number of two digits, the low one below `m` and the high one below `n`, is below `m * n`. -/
theorem add_mul_lt_mul {i k m n : Nat} (hi : i < m) (hk : k < n) : i + m * k < m * n := by
  calc i + m * k
    _ < m + m * k := Nat.add_lt_add_right hi _
    _ = m * (k + 1) := by rw [Nat.mul_add_one, Nat.add_comm]
    _ ≤ m * n := Nat.mul_le_mul_left m hk

theorem State.rank_lt_pairs {s : State} (h : s.InWindow) : s.rank < s.pairs := by
  rw [← s.fastAxis_size_mul_slowAxis_size]
  exact add_mul_lt_mul (Axis.index_lt_size h.1) (Axis.index_lt_size h.2)

/-- The fast axis is the low digit of the rank, the slow one the high digit. -/
theorem State.rank_digits {s : State} (h : s.InWindow) :
    s.rank % s.fastAxis.size = s.fastAxis.index ∧ s.rank / s.fastAxis.size = s.slowAxis.index := by
  have hlt := Axis.index_lt_size h.1
  rw [rank, Nat.add_mul_mod_self_left, Nat.add_mul_div_left _ _ (Nat.zero_lt_of_lt hlt)]
  exact ⟨Nat.mod_eq_of_lt hlt, by rw [Nat.div_eq_of_lt hlt, Nat.zero_add]⟩

/-! ### One advance -/

theorem Axis.next_inside {a : Axis} (h : a.Inside) : a.next.Inside := by
  obtain ⟨hf, hl⟩ := h
  by_cases he : a.AtEnd
  · rw [Inside, next_cur_of_atEnd he]
    exact ⟨le_rfl, hf.trans hl⟩
  · rw [Inside, next_cur_of_not_atEnd he]
    exact ⟨Nat.le_succ_of_le hf, not_lt.mp he⟩

theorem advance_inWindow {s : State} (h : s.InWindow) : s.advance.InWindow := by
  obtain ⟨hf, hs⟩ := h
  obtain ⟨ef, es⟩ := advance_axes s
  rw [State.InWindow, ef, es]
  refine ⟨Axis.next_inside hf, ?_⟩
  split
  · exact Axis.next_inside hs
  · exact hs

/-- A sample raises the rank by one, from the last pair back to the first (R183). -/
theorem advance_rank {s : State} (h : s.InWindow) : s.advance.rank = (s.rank + 1) % s.pairs := by
  obtain ⟨hf, hs⟩ := h
  obtain ⟨ef, es⟩ := advance_axes s
  have hlt := Axis.index_lt_size hf
  rw [← s.fastAxis_size_mul_slowAxis_size, State.rank, ef, es, Axis.next_size, Axis.next_index hf, State.rank,
    Nat.add_right_comm]
  by_cases hend : s.fastAxis.index + 1 = s.fastAxis.size
  · rw [if_pos ((Axis.atEnd_iff hf).mpr hend), Axis.next_index hs, hend, Nat.mod_self, Nat.zero_add, Nat.add_comm _ (_ * _),
      ← Nat.mul_add_one, Nat.mul_mod_mul_left]
  · have hroom : s.fastAxis.index + 1 < s.fastAxis.size := lt_of_le_of_ne hlt hend
    rw [if_neg (mt (Axis.atEnd_iff hf).mp hend), Nat.mod_eq_of_lt hroom,
      Nat.mod_eq_of_lt (add_mul_lt_mul hroom (Axis.index_lt_size hs))]

/-! ### Several advances -/

/-- The state `t` is `s` with its cursor placed, perhaps elsewhere. -/
def CursorMoved (s t : State) : Prop := ∃ c p, t = s.setCursor c p

theorem advance_cursorMoved (s : State) : CursorMoved s s.advance := by
  cases h : s.swap with
  | false => exact ⟨_, _, s.advance_cursor_of_not_swap h⟩
  | true => exact ⟨_, _, s.advance_cursor_of_swap h⟩

theorem iterate_advance_cursorMoved (s : State) (j : Nat) : CursorMoved s (State.advance^[j] s) := by
  induction j with
  | zero => exact ⟨s.activeColumn, s.activePage, rfl⟩
  | succ j ih =>
    rw [Function.iterate_succ_apply']
    obtain ⟨c, p, e⟩ := ih
    obtain ⟨c', p', e'⟩ := advance_cursorMoved (State.advance^[j] s)
    exact ⟨c', p', by rw [e', e]; rfl⟩

/-- The window has as many pairs wherever the cursor is. -/
theorem CursorMoved.pairs_eq {s t : State} (h : CursorMoved s t) : t.pairs = s.pairs := by
  obtain ⟨c, p, rfl⟩ := h
  rfl

/-- The axes keep their windows wherever the cursor is. -/
theorem CursorMoved.window_eq {s t : State} (h : CursorMoved s t) :
    t.fastAxis.size = s.fastAxis.size ∧ t.fastAxis.first = s.fastAxis.first ∧ t.slowAxis.first = s.slowAxis.first := by
  obtain ⟨c, p, rfl⟩ := h
  unfold State.fastAxis State.slowAxis
  rw [State.setCursor_swap]
  split <;> exact ⟨rfl, rfl, rfl⟩

/-- The cursor is all that can have changed. -/
theorem CursorMoved.eq_of_cur_eq {s t : State} (h : CursorMoved s t) (hfast : t.fastAxis.cur = s.fastAxis.cur)
    (hslow : t.slowAxis.cur = s.slowAxis.cur) : t = s := by
  obtain ⟨c, p, rfl⟩ := h
  unfold State.fastAxis at hfast
  unfold State.slowAxis at hslow
  rw [State.setCursor_swap] at hfast hslow
  cases hw : s.swap with
  | false =>
    rw [hw] at hfast hslow
    obtain rfl : c = s.activeColumn := hfast
    obtain rfl : p = s.activePage := hslow
    rfl
  | true =>
    rw [hw] at hfast hslow
    obtain rfl : p = s.activePage := hfast
    obtain rfl : c = s.activeColumn := hslow
    rfl

/-- Inside one window the rank tells the cursor. -/
theorem CursorMoved.eq_of_rank_eq {s t : State} (h : CursorMoved s t) (hs : s.InWindow) (ht : t.InWindow)
    (hrank : t.rank = s.rank) : t = s := by
  obtain ⟨hsize, hffirst, hsfirst⟩ := h.window_eq
  obtain ⟨hfs, hss⟩ := State.rank_digits hs
  obtain ⟨hft, hst⟩ := State.rank_digits ht
  rw [hrank, hsize] at hft hst
  exact h.eq_of_cur_eq (Axis.cur_eq_of_index_eq ht.1 hs.1 hffirst (hft.symm.trans hfs))
    (Axis.cur_eq_of_index_eq ht.2 hs.2 hsfirst (hst.symm.trans hss))

theorem iterate_advance_inWindow {s : State} (h : s.InWindow) (j : Nat) : (State.advance^[j] s).InWindow :=
  Function.Iterate.rec State.InWindow h (fun _ => advance_inWindow) j

/-- Samples raise the rank by their number, modulo the number of pairs (R183). -/
theorem iterate_advance_rank {s : State} (h : s.InWindow) (j : Nat) :
    (State.advance^[j] s).rank = (s.rank + j) % s.pairs := by
  induction j with
  | zero => exact (Nat.mod_eq_of_lt (State.rank_lt_pairs h)).symm
  | succ j ih =>
    rw [Function.iterate_succ_apply', advance_rank (iterate_advance_inWindow h j),
      (iterate_advance_cursorMoved s j).pairs_eq, ih, Nat.mod_add_mod, Nat.add_assoc]

/-- As many advances as the window has pairs bring the cursor back (R183). -/
theorem iterate_advance_pairs {s : State} (h : s.InWindow) : State.advance^[s.pairs] s = s := by
  refine (iterate_advance_cursorMoved s s.pairs).eq_of_rank_eq h (iterate_advance_inWindow h _) ?_
  rw [iterate_advance_rank h, Nat.add_mod_right, Nat.mod_eq_of_lt (State.rank_lt_pairs h)]

/-! ### A buffer of samples -/

/-- Plotting a pixel writes nothing but outputs (R177). -/
theorem plot_withoutOutputs (s : State) (v : Word) : (s.plot v).withoutOutputs = s.withoutOutputs := by
  unfold State.plot
  split <;> rfl

/-- But for what they send, samples are advances of the cursor (R170, R181). -/
theorem runEach_pix_withoutOutputs {vs : List Word} {s t : State} (h : runEach (fun v => exec (.pix v)) vs s = .next t) :
    t.withoutOutputs = State.advance^[vs.length] s.withoutOutputs := by
  induction vs generalizing s with
  | nil => cases h; rfl
  | cons v vs ih =>
    obtain ⟨u, hu, hrest⟩ := andThen_eq_next h
    obtain rfl := exec_pix_inv hu
    rw [ih hrest, advance_withoutOutputs, plot_withoutOutputs, List.length_cons, Function.iterate_succ_apply]

/-- Settles O25: the buffer's samples advance the cursor once each, which brings it back. -/
theorem fullTraversalReturnsTheCursor : Obligations.FullTraversalReturnsTheCursor := by
  intro s buf rest hm hw hin hcol hpage hcur hlen
  obtain ⟨t, ht⟩ : ∃ t, pixelStream buf (s.setInbox rest) = .next t :=
    runEach_completes (fun v => exec_completes (.pix v)) _ _
  have hcount : (samplesOf s.cfg.sampleOrder buf).length = s.pairs := by
    rw [samplesOf_length, hlen]
    exact Nat.mul_div_cancel_left _ two_pos
  have hin' : (s.setInbox rest).withoutOutputs.InWindow := (State.inWindow_iff _).mpr ⟨hcur.1.1 hcol, hcur.2.1 hpage⟩
  have hback : t.withoutOutputs = (s.setInbox rest).withoutOutputs :=
    (runEach_pix_withoutOutputs ht).trans (by rw [State.setInbox_cfg, hcount]; exact iterate_advance_pairs hin')
  have hc : t.withoutOutputs.activeColumn = _ := congrArg State.activeColumn hback
  have hp : t.withoutOutputs.activePage = _ := congrArg State.activePage hback
  exact ⟨t, (step_pixels hin hm hw).trans ht, hc, hp⟩

/-! ### From the start of the window -/

/-- The start of a well-formed window lies in it. -/
theorem Axis.inside_of_start {a : Axis} (h : a.cur = a.first) (hwf : a.first.toNat ≤ a.last.toNat) : a.Inside := by
  rw [Inside, h]
  exact ⟨le_rfl, hwf⟩

/-- At the start of its window an axis has index 0. -/
theorem Axis.index_of_start {a : Axis} (h : a.cur = a.first) : a.index = 0 := by
  rw [index, h, Nat.sub_self]

theorem State.rank_of_start {s : State} (hc : s.activeColumn = s.columnStart) (hp : s.activePage = s.pageStart) :
    s.rank = 0 := by
  have hcol : s.columnAxis.index = 0 := Axis.index_of_start hc
  have hpage : s.pageAxis.index = 0 := Axis.index_of_start hp
  cases hw : s.swap with
  | false => obtain ⟨ef, es⟩ := s.axes_of_not_swap hw; rw [rank, ef, es, hcol, hpage, Nat.mul_zero]
  | true => obtain ⟨ef, es⟩ := s.axes_of_swap hw; rw [rank, ef, es, hcol, hpage, Nat.mul_zero]

/-- Settles O26: from the start of the window the number of samples is the rank of the pair they reach. -/
theorem traversalVisitsEachCursorPairOnce : Obligations.TraversalVisitsEachCursorPairOnce := by
  intro s hcol hpage hc hp c p hc0 hc1 hp0 hp1
  have hs : s.InWindow := s.inWindow_iff.mpr ⟨Axis.inside_of_start hc hcol, Axis.inside_of_start hp hpage⟩
  have ht : (s.setCursor c p).InWindow := (State.inWindow_iff _).mpr ⟨⟨hc0, hc1⟩, hp0, hp1⟩
  have hrank : ∀ j < s.pairs, (State.advance^[j] s).rank = j := fun j hj => by
    rw [iterate_advance_rank hs, State.rank_of_start hc hp, Nat.zero_add, Nat.mod_eq_of_lt hj]
  have hlt : (s.setCursor c p).rank < s.pairs := State.rank_lt_pairs ht
  refine ⟨(s.setCursor c p).rank, ⟨hlt, ?_⟩, fun j ⟨hj, hcj, hpj⟩ => ?_⟩
  · have hmoved : CursorMoved (s.setCursor c p) (State.advance^[(s.setCursor c p).rank] s) :=
      iterate_advance_cursorMoved s _
    rw [hmoved.eq_of_rank_eq ht (iterate_advance_inWindow hs _) (hrank _ hlt)]
    exact ⟨rfl, rfl⟩
  · obtain ⟨c', p', e⟩ := iterate_advance_cursorMoved s j
    rw [e] at hcj hpj
    rw [← hrank j hj, e, ← hcj, ← hpj]
    rfl

/-! ### One pixel frame -/

/-- A buffer of whole samples and one byte more holds the same samples (R83, R171). -/
theorem samplesOf_append_singleton (o : SampleOrder) {buf : List Byte} (b : Byte) (h : buf.length % 2 = 0) :
    samplesOf o (buf ++ [b]) = samplesOf o buf := by
  rw [samplesOf_append o buf [b] h, samplesOf, List.append_nil]

/-- Settles O38: a pixel buffer is its samples. -/
theorem oddTrailingByteIsDropped : Obligations.OddTrailingByteIsDropped := by
  intro s buf b rest hm hw hbuf
  calc step (s.setInbox (.bytes (buf ++ [b]) :: rest))
    _ = pixelStream buf (s.setInbox rest) := by
      rw [step_setInbox_pixels hm hw, pixelStream, samplesOf_append_singleton _ b hbuf, pixelStream]
    _ = step (s.setInbox (.bytes buf :: rest)) := (step_setInbox_pixels hm hw buf rest).symm

/-- `ResetAssert` leaves the latch clear (R221). -/
theorem step_resetAssert_ramWrite {s t : State} (h : step s = .next t) (hin : s.inbox.head? = some .resetAssert) :
    t.ramWrite = false := by
  obtain ⟨rest, hin⟩ := List.head?_eq_some_iff.mp hin
  rw [step_event hin] at h
  cases h
  rfl

/-- Settles O52: what writes the window or the orientation is an argument of a command, which needs the latch clear, or
`ResetAssert`, which clears it. -/
theorem pixelFrameHasOneWindowAndOrientation : Obligations.PixelFrameHasOneWindowAndOrientation := by
  intro s t h hset hset'
  obtain ⟨h1, h2, h3⟩ | ⟨-, hclear, -⟩ := onlyMadctlWritesTheOrientation s t h
  · obtain ⟨h4, h5, h6, h7⟩ | ⟨-, hclear, -⟩ | hreset := onlyWindowCommandsAndResetWriteTheWindow s t h
    · exact ⟨h4, h5, h6, h7, h1, h2, h3⟩
    · exact absurd (hclear.symm.trans hset) Bool.false_ne_true
    · exact absurd ((step_resetAssert_ramWrite h hreset).symm.trans hset') Bool.false_ne_true
  · exact absurd (hclear.symm.trans hset) Bool.false_ne_true

end Sys2Proof.Machine
end

section
/-! PROOFS. Every event completes (spec/60_exceptions.md R200): each loop body does, so each stream of bytes does, and a line
transition answers a next state outright. -/

namespace Sys2Proof.Machine

/-! ### Bytes -/

theorem acceptOpcode_completes (b : Byte) (s : State) : Completes (acceptOpcode b s) := by
  rw [acceptOpcode]
  split
  case isTrue => exact exec_completes _ _
  case isFalse => exact ⟨_, rfl⟩

theorem commandStream_completes (buf : List Byte) (s : State) : Completes (commandStream buf s) :=
  runEach_completes acceptOpcode_completes buf _

theorem pixelStream_completes (buf : List Byte) (s : State) : Completes (pixelStream buf s) :=
  runEach_completes (fun v => exec_completes (.pix v)) _ s

theorem dataStream_completes (buf : List Byte) (s : State) : Completes (dataStream buf s) := by
  rw [dataStream]
  split
  case isTrue => exact pixelStream_completes buf s
  case isFalse => exact argumentStream_completes buf s

theorem handleBytes_completes (buf : List Byte) (s : State) : Completes (handleBytes buf s) := by
  cases buf with
  | nil => exact ⟨s, rfl⟩
  | cons b bs =>
    rw [handleBytes]
    cases s.mode with
    | command => exact commandStream_completes _ s
    | data => exact dataStream_completes _ s

/-! ### Events -/

theorem handle_completes (e : Event) (s : State) : Completes (handle e s) := by
  cases e with
  | bytes buf => exact handleBytes_completes buf s
  | modeLine m => exact ⟨s.setMode m, rfl⟩
  | selectAssert => exact ⟨s.discardCommand, rfl⟩
  | selectDeassert => exact ⟨s, rfl⟩
  | resetAssert => exact ⟨s.chipReset, rfl⟩
  | resetDeassert => exact ⟨s, rfl⟩

/-- A step handles the next event, and answers the state unchanged when there is none (R6). -/
theorem step_completes (s : State) : Completes (step s) := by
  cases hin : s.inbox with
  | nil => exact ⟨s, by rw [step, deliverNext, hin]⟩
  | cons e rest => exact (step_event hin).symm ▸ handle_completes e _

/-- Settles O45: every event's handling completes, and `Fault` has no constructor. -/
theorem everyEventCompletes : Obligations.EveryEventCompletes :=
  ⟨step_completes, ⟨fun e => nomatch e⟩⟩

end Sys2Proof.Machine
end

section
/-! PROOFS. The reset line and attach (spec/70_reset_and_hazards.md R220, R221): the last column or page of a panel as the 16-bit
value the window holds, and the two states the rules spell out. -/

namespace Sys2Proof.Machine

/-- Settles O43: the event is handled by `chipReset`. -/
theorem resetAssertRestoresTheWindow : Obligations.ResetAssertRestoresTheWindow := fun _ _ hin => step_event hin

/-- The last index of an axis a panel may have fits 16 bits (R8, R10). -/
theorem u16_pred_toNat {n : Nat} (hpos : 1 ≤ n) (hmax : n ≤ 65535) : (u16 (n - 1)).toNat = n - 1 := by
  have hfits : ((u16 (n - 1)).toNat : Int) = n - 1 := u16_toNat (by omega) (by omega)
  omega

/-- Every argument byte is zero after attach (R220). -/
theorem attach_commandBuf_getElem (c : Config) (i : Fin 16) : (State.attach c).commandBuf[i] = 0#8 :=
  Vector.getElem_replicate i.isLt

/-- Settles O44: attach writes the values down, and the size of a well-formed panel makes the ends of the window exact. -/
theorem attachValues : Obligations.AttachValues := by
  refine ⟨fun c hc => ?attach, rfl, rfl, rfl, rfl⟩
  case attach =>
    obtain ⟨hwidth, hwidth', hheight, hheight', -⟩ := hc
    have hcolumn : (State.attach c).columnEnd.toNat = c.width - 1 := u16_pred_toNat hwidth hwidth'
    have hpage : (State.attach c).pageEnd.toNat = c.height - 1 := u16_pred_toNat hheight hheight'
    exact ⟨rfl, rfl, rfl, rfl, rfl, attach_commandBuf_getElem c, rfl, rfl, hcolumn, rfl, rfl, hpage, rfl, rfl, rfl, rfl, rfl⟩

end Sys2Proof.Machine
end
